-- ==== Sys2Proof/Word.lean ====
section
/-! DEFINITION. The two word types of the machine: the byte (00_scope.md R6: registers and memory cells are 8 bits wide)
and the 16-bit word of PC and of every bus address. -/

namespace Sys2Proof

/-- A byte: an unsigned integer 0 to 255 (00_scope.md R9). -/
abbrev Byte := BitVec 8

/-- A word: an unsigned integer 0 to 65535 (00_scope.md R9). -/
abbrev Word := BitVec 16

end Sys2Proof
end

