-- ==== Sys2Proof/Config.lean ====
section
/-! DEFINITION. The parameters of the machine (00_scope.md R6, R7; 92_eei_decisions.md): the shapes of the device table
and of the ticker list, the parameters the spec adds, and the free values, which have no body, so that a statement
about them holds whatever they are. All of it but the free values is plain data that State holds, so that a statement
for every state is a statement for every choice of the host. -/

namespace Sys2Proof

/-- The contents of a RAM or ROM: (index, byte) pairs, indexes strictly rising, no entry equal to what an unlisted index
reads as (`Memory.wf`). -/
abbrev Memory := List Host.Cell

/-- What answers at a window of the bus (20_memory.md R55 to R57).
`foreign` is any device the block does not contain: its behaviour is the free pair `Config.foreignRead`,
`Config.foreignWrite` over its own state `st` (notes/assumptions/3.md). -/
inductive Store where
  | ram (size : Nat) (cells : Memory)
  | rom (size : Nat) (cells : Memory)
  | foreign (id : Nat) (st : List Byte)
  deriving DecidableEq, Repr

/-- One triple `(start, end, device)` of the device table (10_state.md R40); the window is inclusive at both ends. -/
structure Device where
  first : Word
  last : Word
  store : Store
  deriving DecidableEq, Repr

/-- One entry of the ticker list (10_state.md R41): the CPU, or a subscriber outside the block (00_scope.md R14). -/
inductive Ticker where
  | cpu
  | subscriber (id : Nat)
  deriving DecidableEq, Repr

/-- What a subscriber outside the block may do during its turn (00_scope.md R14): the four events, and, where it is itself
a device (a timer with registers, 60_exceptions.md R326), change that device's own state with no bus access. -/
inductive BusAction where
  | irqReq
  | nmiReq
  | busRead (a : Word)
  | busWrite (a : Word) (v : Byte)
  | ownState (position : Nat) (st : List Byte)
  deriving DecidableEq, Repr

/-- Where INC and DEC take N and Z from (92_eei_decisions.md D11). -/
inductive IncdecNz where
  | computed
  | readback
  deriving DecidableEq, Repr

/-- The write address of SHX and SHY on a page cross; the spec specifies one value (92_eei_decisions.md D15). -/
inductive ShxyCross where
  | replaceHigh
  deriving DecidableEq, Repr

/-- What the eighteen UNK bytes do; the spec specifies one value (92_eei_decisions.md D3). -/
inductive UnkPolicy where
  | fatal
  deriving DecidableEq, Repr

/-- The parameters the spec adds (00_scope.md R7) and the text of a UNK byte (D33). `end_of_run` is a claim's own
argument (70_reset_and_hazards.md R355): see Safety.lean. -/
structure Params where
  incdecNz : IncdecNz
  resetClearsLatches : Bool
  shxyCross : ShxyCross
  unkPolicy : UnkPolicy
  unkText : String
  deriving DecidableEq, Repr

/-- The defaults of 92_eei_decisions.md, "Parameters left open, collected". -/
def Params.default : Params :=
  { incdecNz := .computed, resetClearsLatches := true, shxyCross := .replaceHigh, unkPolicy := .fatal, unkText := "???" }

/-- FREE VALUE (notes/assumptions/3.md): a foreign device's answer to a read, from its id, its state and the offset; the
second component is its state after the read (20_memory.md R55). -/
opaque Config.foreignRead : Nat → List Byte → Nat → Byte × List Byte

/-- FREE VALUE (notes/assumptions/3.md): a foreign device's state after a write of a byte at an offset (20_memory.md R55). -/
opaque Config.foreignWrite : Nat → List Byte → Nat → Byte → List Byte

/-- FREE VALUE (notes/assumptions/4.md): what a subscriber does in its turn, from its id, the tick count (a fresh turn
each tick) and the device table it can read. -/
opaque Config.subscriberActs : Nat → Nat → List Device → List BusAction

/-- FREE VALUE (notes/assumptions/4.md): whether a subscriber's turn then reports failure (20_memory.md R60). -/
opaque Config.subscriberFails : Nat → Nat → List Device → Bool

/-- FREE VALUE (notes/assumptions/7.md): whether the bus reads that produce a trace line are seen by the devices
(60_exceptions.md R331: "if its production calls `disassemble`, that repeats the bus reads"). -/
opaque Config.traceReadsBus : Bool

end Sys2Proof
end

