-- ==== Sys2Proof/Syntax.lean ====
section
/-! DEFINITION. The instructions as syntax: the twelve addressing modes (40_step_and_addressing.md R103) and one
constructor per row of the opcode table (30_encoding.md R83 to R87), each with the operand bytes its mode takes
(R80): none, one byte, or one little-endian word. -/

namespace Sys2Proof

/-- The twelve addressing modes (R103). -/
inductive Mode where
  | none | imm | zp | zpx | zpy | izx | izy | abs | abx | aby | ind | rel
  deriving DecidableEq, Repr

/-- One constructor per opcode byte. A name is the mnemonic and its mode; where the table has several bytes for one
mnemonic and mode (ANC, the second SBC immediate, the undocumented NOPs, UNK) the byte ends the name. -/
inductive Instr where
  -- Loads, stores and register transfers (41_load_store_transfer.md)
  | ldaIzx (op8 : Byte) | ldaZp (op8 : Byte) | ldaImm (op8 : Byte) | ldaAbs (op16 : Word) | ldaIzy (op8 : Byte)
  | ldaZpx (op8 : Byte) | ldaAby (op16 : Word) | ldaAbx (op16 : Word)
  | ldxImm (op8 : Byte) | ldxZp (op8 : Byte) | ldxAbs (op16 : Word) | ldxZpy (op8 : Byte) | ldxAby (op16 : Word)
  | ldyImm (op8 : Byte) | ldyZp (op8 : Byte) | ldyAbs (op16 : Word) | ldyZpx (op8 : Byte) | ldyAbx (op16 : Word)
  | staIzx (op8 : Byte) | staZp (op8 : Byte) | staAbs (op16 : Word) | staIzy (op8 : Byte) | staZpx (op8 : Byte)
  | staAby (op16 : Word) | staAbx (op16 : Word)
  | stxZp (op8 : Byte) | stxAbs (op16 : Word) | stxZpy (op8 : Byte)
  | styZp (op8 : Byte) | styAbs (op16 : Word) | styZpx (op8 : Byte)
  | tax
  | txa
  | tay
  | tya
  | tsx
  | txs
  -- Add and subtract with carry (42_arithmetic.md)
  | adcIzx (op8 : Byte) | adcZp (op8 : Byte) | adcImm (op8 : Byte) | adcAbs (op16 : Word) | adcIzy (op8 : Byte)
  | adcZpx (op8 : Byte) | adcAby (op16 : Word) | adcAbx (op16 : Word)
  | sbcIzx (op8 : Byte) | sbcZp (op8 : Byte) | sbcImm (op8 : Byte) | sbcImmEB (op8 : Byte) | sbcAbs (op16 : Word)
  | sbcIzy (op8 : Byte) | sbcZpx (op8 : Byte) | sbcAby (op16 : Word) | sbcAbx (op16 : Word)
  -- Logic, bit test, shifts and rotates (43_logic_shift.md)
  | andIzx (op8 : Byte) | andZp (op8 : Byte) | andImm (op8 : Byte) | andAbs (op16 : Word) | andIzy (op8 : Byte)
  | andZpx (op8 : Byte) | andAby (op16 : Word) | andAbx (op16 : Word)
  | oraIzx (op8 : Byte) | oraZp (op8 : Byte) | oraImm (op8 : Byte) | oraAbs (op16 : Word) | oraIzy (op8 : Byte)
  | oraZpx (op8 : Byte) | oraAby (op16 : Word) | oraAbx (op16 : Word)
  | eorIzx (op8 : Byte) | eorZp (op8 : Byte) | eorImm (op8 : Byte) | eorAbs (op16 : Word) | eorIzy (op8 : Byte)
  | eorZpx (op8 : Byte) | eorAby (op16 : Word) | eorAbx (op16 : Word)
  | bitZp (op8 : Byte) | bitAbs (op16 : Word)
  | aslA
  | lsrA
  | rolA
  | rorA
  | aslZp (op8 : Byte) | aslAbs (op16 : Word) | aslZpx (op8 : Byte) | aslAbx (op16 : Word)
  | lsrZp (op8 : Byte) | lsrAbs (op16 : Word) | lsrZpx (op8 : Byte) | lsrAbx (op16 : Word)
  | rolZp (op8 : Byte) | rolAbs (op16 : Word) | rolZpx (op8 : Byte) | rolAbx (op16 : Word)
  | rorZp (op8 : Byte) | rorAbs (op16 : Word) | rorZpx (op8 : Byte) | rorAbx (op16 : Word)
  -- Increments, decrements and compares (44_incdec_compare.md)
  | incZp (op8 : Byte) | incAbs (op16 : Word) | incZpx (op8 : Byte) | incAbx (op16 : Word)
  | decZp (op8 : Byte) | decAbs (op16 : Word) | decZpx (op8 : Byte) | decAbx (op16 : Word)
  | inx
  | iny
  | dex
  | dey
  | cmpIzx (op8 : Byte) | cmpZp (op8 : Byte) | cmpImm (op8 : Byte) | cmpAbs (op16 : Word) | cmpIzy (op8 : Byte)
  | cmpZpx (op8 : Byte) | cmpAby (op16 : Word) | cmpAbx (op16 : Word)
  | cpxImm (op8 : Byte) | cpxZp (op8 : Byte) | cpxAbs (op16 : Word)
  | cpyImm (op8 : Byte) | cpyZp (op8 : Byte) | cpyAbs (op16 : Word)
  -- Jumps, calls, returns, branches (45_control_flow.md)
  | jmpAbs (op16 : Word) | jmpInd (op16 : Word)
  | jsr (op16 : Word)
  | rts
  | rti
  | bpl (op8 : Byte)
  | bmi (op8 : Byte)
  | bvc (op8 : Byte)
  | bvs (op8 : Byte)
  | bcc (op8 : Byte)
  | bcs (op8 : Byte)
  | bne (op8 : Byte)
  | beq (op8 : Byte)
  -- BRK, NOP, flag control and stack (46_system_flags_stack.md)
  | brk
  | nopZp04 (op8 : Byte) | nopAbs0C (op16 : Word) | nopZpx14 (op8 : Byte) | nop1A | nopAbx1C (op16 : Word)
  | nopZpx34 (op8 : Byte) | nop3A | nopAbx3C (op16 : Word) | nopZp44 (op8 : Byte) | nopZpx54 (op8 : Byte) | nop5A
  | nopAbx5C (op16 : Word) | nopZp64 (op8 : Byte) | nopZpx74 (op8 : Byte) | nop7A | nopAbx7C (op16 : Word)
  | nopImm80 (op8 : Byte) | nopImm82 (op8 : Byte) | nopImm89 (op8 : Byte) | nopImmC2 (op8 : Byte)
  | nopZpxD4 (op8 : Byte) | nopDA | nopAbxDC (op16 : Word) | nopImmE2 (op8 : Byte) | nop | nopZpxF4 (op8 : Byte)
  | nopFA | nopAbxFC (op16 : Word)
  | clc
  | sec
  | cli
  | sei
  | clv
  | cld
  | sed
  | pha
  | pla
  | php
  | plp
  -- Undocumented instructions (47_undocumented.md)
  | sloIzx (op8 : Byte) | sloZp (op8 : Byte) | sloAbs (op16 : Word) | sloIzy (op8 : Byte) | sloZpx (op8 : Byte)
  | sloAby (op16 : Word) | sloAbx (op16 : Word)
  | rlaIzx (op8 : Byte) | rlaZp (op8 : Byte) | rlaAbs (op16 : Word) | rlaIzy (op8 : Byte) | rlaZpx (op8 : Byte)
  | rlaAby (op16 : Word) | rlaAbx (op16 : Word)
  | sreIzx (op8 : Byte) | sreZp (op8 : Byte) | sreAbs (op16 : Word) | sreIzy (op8 : Byte) | sreZpx (op8 : Byte)
  | sreAby (op16 : Word) | sreAbx (op16 : Word)
  | rraIzx (op8 : Byte) | rraZp (op8 : Byte) | rraAbs (op16 : Word) | rraIzy (op8 : Byte) | rraZpx (op8 : Byte)
  | rraAby (op16 : Word) | rraAbx (op16 : Word)
  | dcpIzx (op8 : Byte) | dcpZp (op8 : Byte) | dcpAbs (op16 : Word) | dcpIzy (op8 : Byte) | dcpZpx (op8 : Byte)
  | dcpAby (op16 : Word) | dcpAbx (op16 : Word)
  | iscIzx (op8 : Byte) | iscZp (op8 : Byte) | iscAbs (op16 : Word) | iscIzy (op8 : Byte) | iscZpx (op8 : Byte)
  | iscAby (op16 : Word) | iscAbx (op16 : Word)
  | saxIzx (op8 : Byte) | saxZp (op8 : Byte) | saxAbs (op16 : Word) | saxZpy (op8 : Byte)
  | laxIzx (op8 : Byte) | laxZp (op8 : Byte) | laxAbs (op16 : Word) | laxIzy (op8 : Byte) | laxZpy (op8 : Byte)
  | laxAby (op16 : Word)
  | ancImm0B (op8 : Byte) | ancImm2B (op8 : Byte)
  | alrImm (op8 : Byte)
  | arrImm (op8 : Byte)
  | axsImm (op8 : Byte)
  | shyAbx (op16 : Word)
  | shxAby (op16 : Word)
  -- The eighteen opcode bytes with no behaviour (47_undocumented.md R287)
  | unk02 | unk12 | unk22 | unk32 | unk42 | unk52 | unk62 | unk72 | unk8B | unk92 | unk93 | unk9B | unk9F | unkAB
  | unkB2 | unkBB | unkD2 | unkF2
  deriving DecidableEq, Repr

end Sys2Proof
end

