-- ==== Sys2Proof/WellFormed.lean ====
section
/-! DEFINITION. What a well-formed term is. An instruction is always well formed: every value of every operand byte is
legal (30_encoding.md R88, R89) and the constructors hold exactly the bytes their modes take. The checks with something
to refuse are on the platform the host builds: a window runs upward (20_memory.md R51), a RAM or ROM has 1 to 65536
bytes (R56, 92_eei_decisions.md D21), and a ticker list holds the one CPU once (60_exceptions.md R328). -/

namespace Sys2Proof

/-- Every instruction term is well formed (30_encoding.md R88, R89). -/
def Instr.wellFormed (_ : Instr) : Bool := true

/-- `start <= end` (20_memory.md R51). -/
def Device.windowOk (d : Device) : Bool := decide (d.first ≤ d.last)

/-- A RAM or ROM has from 1 to 65536 bytes (20_memory.md R56, R57; D21). -/
def Store.sizeOk : Store → Bool
  | .ram size _ => decide (1 ≤ size) && decide (size ≤ 65536)
  | .rom size _ => decide (1 ≤ size) && decide (size ≤ 65536)
  | .foreign _ _ => true

/-- The ticker list holds the CPU exactly once (10_state.md R41, 60_exceptions.md R328). -/
def tickersOk (ts : List Ticker) : Bool := decide (ts.count .cpu = 1)

end Sys2Proof
end

