-- ==== Sys2Proof/Decode.lean ====
section
/-! DEFINITION. Decoding and encoding (30_encoding.md): the operand-byte counts, the opcode matrix of R84 as one function
per row of the matrix, the row of each instruction (opcode byte, mnemonic text, mode, base cycles), the decoder on a
list of bytes, total and rejecting by name, the encoder, and the decoder as the opcode table numbers its bits.
The byte-order and extension helpers they use stand first. -/

namespace Sys2Proof

/-- `{hi, lo} = hi * 256 + lo` (00_scope.md R9). -/
def mkWord (hi lo : Byte) : Word := hi ++ lo

/-- `w[15:8]` (00_scope.md R9). -/
def hiByte (w : Word) : Byte := w.extractLsb' 8 8

/-- `w[7:0]` (00_scope.md R9). -/
def loByte (w : Word) : Byte := w.extractLsb' 0 8

/-- `zext_16(b)` (00_scope.md R9). -/
def zext16 (b : Byte) : Word := b.setWidth 16

/-- `sext_8(b)` as a word, modulo 65536 (00_scope.md R9). -/
def sext16 (b : Byte) : Word := b.signExtend 16

/-- The operand-byte count of a mode (R103, table): 0, 1 or 2. -/
def Mode.operandBytes : Mode → Nat
  | .none => 0
  | .imm => 1
  | .zp => 1
  | .zpx => 1
  | .zpy => 1
  | .izx => 1
  | .izy => 1
  | .rel => 1
  | .abs => 2
  | .abx => 2
  | .aby => 2
  | .ind => 2

/-- The matrix of R84, row 0x: the column is the low nibble of the opcode. -/
def matrix0 (col : Nat) (op8 : Byte) (op16 : Word) : Instr :=
  match col with
  | 0 => .brk
  | 1 => .oraIzx op8
  | 2 => .unk02
  | 3 => .sloIzx op8
  | 4 => .nopZp04 op8
  | 5 => .oraZp op8
  | 6 => .aslZp op8
  | 7 => .sloZp op8
  | 8 => .php
  | 9 => .oraImm op8
  | 10 => .aslA
  | 11 => .ancImm0B op8
  | 12 => .nopAbs0C op16
  | 13 => .oraAbs op16
  | 14 => .aslAbs op16
  | _ => .sloAbs op16

/-- The matrix of R84, row 1x: the column is the low nibble of the opcode. -/
def matrix1 (col : Nat) (op8 : Byte) (op16 : Word) : Instr :=
  match col with
  | 0 => .bpl op8
  | 1 => .oraIzy op8
  | 2 => .unk12
  | 3 => .sloIzy op8
  | 4 => .nopZpx14 op8
  | 5 => .oraZpx op8
  | 6 => .aslZpx op8
  | 7 => .sloZpx op8
  | 8 => .clc
  | 9 => .oraAby op16
  | 10 => .nop1A
  | 11 => .sloAby op16
  | 12 => .nopAbx1C op16
  | 13 => .oraAbx op16
  | 14 => .aslAbx op16
  | _ => .sloAbx op16

/-- The matrix of R84, row 2x: the column is the low nibble of the opcode. -/
def matrix2 (col : Nat) (op8 : Byte) (op16 : Word) : Instr :=
  match col with
  | 0 => .jsr op16
  | 1 => .andIzx op8
  | 2 => .unk22
  | 3 => .rlaIzx op8
  | 4 => .bitZp op8
  | 5 => .andZp op8
  | 6 => .rolZp op8
  | 7 => .rlaZp op8
  | 8 => .plp
  | 9 => .andImm op8
  | 10 => .rolA
  | 11 => .ancImm2B op8
  | 12 => .bitAbs op16
  | 13 => .andAbs op16
  | 14 => .rolAbs op16
  | _ => .rlaAbs op16

/-- The matrix of R84, row 3x: the column is the low nibble of the opcode. -/
def matrix3 (col : Nat) (op8 : Byte) (op16 : Word) : Instr :=
  match col with
  | 0 => .bmi op8
  | 1 => .andIzy op8
  | 2 => .unk32
  | 3 => .rlaIzy op8
  | 4 => .nopZpx34 op8
  | 5 => .andZpx op8
  | 6 => .rolZpx op8
  | 7 => .rlaZpx op8
  | 8 => .sec
  | 9 => .andAby op16
  | 10 => .nop3A
  | 11 => .rlaAby op16
  | 12 => .nopAbx3C op16
  | 13 => .andAbx op16
  | 14 => .rolAbx op16
  | _ => .rlaAbx op16

/-- The matrix of R84, row 4x: the column is the low nibble of the opcode. -/
def matrix4 (col : Nat) (op8 : Byte) (op16 : Word) : Instr :=
  match col with
  | 0 => .rti
  | 1 => .eorIzx op8
  | 2 => .unk42
  | 3 => .sreIzx op8
  | 4 => .nopZp44 op8
  | 5 => .eorZp op8
  | 6 => .lsrZp op8
  | 7 => .sreZp op8
  | 8 => .pha
  | 9 => .eorImm op8
  | 10 => .lsrA
  | 11 => .alrImm op8
  | 12 => .jmpAbs op16
  | 13 => .eorAbs op16
  | 14 => .lsrAbs op16
  | _ => .sreAbs op16

/-- The matrix of R84, row 5x: the column is the low nibble of the opcode. -/
def matrix5 (col : Nat) (op8 : Byte) (op16 : Word) : Instr :=
  match col with
  | 0 => .bvc op8
  | 1 => .eorIzy op8
  | 2 => .unk52
  | 3 => .sreIzy op8
  | 4 => .nopZpx54 op8
  | 5 => .eorZpx op8
  | 6 => .lsrZpx op8
  | 7 => .sreZpx op8
  | 8 => .cli
  | 9 => .eorAby op16
  | 10 => .nop5A
  | 11 => .sreAby op16
  | 12 => .nopAbx5C op16
  | 13 => .eorAbx op16
  | 14 => .lsrAbx op16
  | _ => .sreAbx op16

/-- The matrix of R84, row 6x: the column is the low nibble of the opcode. -/
def matrix6 (col : Nat) (op8 : Byte) (op16 : Word) : Instr :=
  match col with
  | 0 => .rts
  | 1 => .adcIzx op8
  | 2 => .unk62
  | 3 => .rraIzx op8
  | 4 => .nopZp64 op8
  | 5 => .adcZp op8
  | 6 => .rorZp op8
  | 7 => .rraZp op8
  | 8 => .pla
  | 9 => .adcImm op8
  | 10 => .rorA
  | 11 => .arrImm op8
  | 12 => .jmpInd op16
  | 13 => .adcAbs op16
  | 14 => .rorAbs op16
  | _ => .rraAbs op16

/-- The matrix of R84, row 7x: the column is the low nibble of the opcode. -/
def matrix7 (col : Nat) (op8 : Byte) (op16 : Word) : Instr :=
  match col with
  | 0 => .bvs op8
  | 1 => .adcIzy op8
  | 2 => .unk72
  | 3 => .rraIzy op8
  | 4 => .nopZpx74 op8
  | 5 => .adcZpx op8
  | 6 => .rorZpx op8
  | 7 => .rraZpx op8
  | 8 => .sei
  | 9 => .adcAby op16
  | 10 => .nop7A
  | 11 => .rraAby op16
  | 12 => .nopAbx7C op16
  | 13 => .adcAbx op16
  | 14 => .rorAbx op16
  | _ => .rraAbx op16

/-- The matrix of R84, row 8x: the column is the low nibble of the opcode. -/
def matrix8 (col : Nat) (op8 : Byte) (op16 : Word) : Instr :=
  match col with
  | 0 => .nopImm80 op8
  | 1 => .staIzx op8
  | 2 => .nopImm82 op8
  | 3 => .saxIzx op8
  | 4 => .styZp op8
  | 5 => .staZp op8
  | 6 => .stxZp op8
  | 7 => .saxZp op8
  | 8 => .dey
  | 9 => .nopImm89 op8
  | 10 => .txa
  | 11 => .unk8B
  | 12 => .styAbs op16
  | 13 => .staAbs op16
  | 14 => .stxAbs op16
  | _ => .saxAbs op16

/-- The matrix of R84, row 9x: the column is the low nibble of the opcode. -/
def matrix9 (col : Nat) (op8 : Byte) (op16 : Word) : Instr :=
  match col with
  | 0 => .bcc op8
  | 1 => .staIzy op8
  | 2 => .unk92
  | 3 => .unk93
  | 4 => .styZpx op8
  | 5 => .staZpx op8
  | 6 => .stxZpy op8
  | 7 => .saxZpy op8
  | 8 => .tya
  | 9 => .staAby op16
  | 10 => .txs
  | 11 => .unk9B
  | 12 => .shyAbx op16
  | 13 => .staAbx op16
  | 14 => .shxAby op16
  | _ => .unk9F

/-- The matrix of R84, row Ax: the column is the low nibble of the opcode. -/
def matrixA (col : Nat) (op8 : Byte) (op16 : Word) : Instr :=
  match col with
  | 0 => .ldyImm op8
  | 1 => .ldaIzx op8
  | 2 => .ldxImm op8
  | 3 => .laxIzx op8
  | 4 => .ldyZp op8
  | 5 => .ldaZp op8
  | 6 => .ldxZp op8
  | 7 => .laxZp op8
  | 8 => .tay
  | 9 => .ldaImm op8
  | 10 => .tax
  | 11 => .unkAB
  | 12 => .ldyAbs op16
  | 13 => .ldaAbs op16
  | 14 => .ldxAbs op16
  | _ => .laxAbs op16

/-- The matrix of R84, row Bx: the column is the low nibble of the opcode. -/
def matrixB (col : Nat) (op8 : Byte) (op16 : Word) : Instr :=
  match col with
  | 0 => .bcs op8
  | 1 => .ldaIzy op8
  | 2 => .unkB2
  | 3 => .laxIzy op8
  | 4 => .ldyZpx op8
  | 5 => .ldaZpx op8
  | 6 => .ldxZpy op8
  | 7 => .laxZpy op8
  | 8 => .clv
  | 9 => .ldaAby op16
  | 10 => .tsx
  | 11 => .unkBB
  | 12 => .ldyAbx op16
  | 13 => .ldaAbx op16
  | 14 => .ldxAby op16
  | _ => .laxAby op16

/-- The matrix of R84, row Cx: the column is the low nibble of the opcode. -/
def matrixC (col : Nat) (op8 : Byte) (op16 : Word) : Instr :=
  match col with
  | 0 => .cpyImm op8
  | 1 => .cmpIzx op8
  | 2 => .nopImmC2 op8
  | 3 => .dcpIzx op8
  | 4 => .cpyZp op8
  | 5 => .cmpZp op8
  | 6 => .decZp op8
  | 7 => .dcpZp op8
  | 8 => .iny
  | 9 => .cmpImm op8
  | 10 => .dex
  | 11 => .axsImm op8
  | 12 => .cpyAbs op16
  | 13 => .cmpAbs op16
  | 14 => .decAbs op16
  | _ => .dcpAbs op16

/-- The matrix of R84, row Dx: the column is the low nibble of the opcode. -/
def matrixD (col : Nat) (op8 : Byte) (op16 : Word) : Instr :=
  match col with
  | 0 => .bne op8
  | 1 => .cmpIzy op8
  | 2 => .unkD2
  | 3 => .dcpIzy op8
  | 4 => .nopZpxD4 op8
  | 5 => .cmpZpx op8
  | 6 => .decZpx op8
  | 7 => .dcpZpx op8
  | 8 => .cld
  | 9 => .cmpAby op16
  | 10 => .nopDA
  | 11 => .dcpAby op16
  | 12 => .nopAbxDC op16
  | 13 => .cmpAbx op16
  | 14 => .decAbx op16
  | _ => .dcpAbx op16

/-- The matrix of R84, row Ex: the column is the low nibble of the opcode. -/
def matrixE (col : Nat) (op8 : Byte) (op16 : Word) : Instr :=
  match col with
  | 0 => .cpxImm op8
  | 1 => .sbcIzx op8
  | 2 => .nopImmE2 op8
  | 3 => .iscIzx op8
  | 4 => .cpxZp op8
  | 5 => .sbcZp op8
  | 6 => .incZp op8
  | 7 => .iscZp op8
  | 8 => .inx
  | 9 => .sbcImm op8
  | 10 => .nop
  | 11 => .sbcImmEB op8
  | 12 => .cpxAbs op16
  | 13 => .sbcAbs op16
  | 14 => .incAbs op16
  | _ => .iscAbs op16

/-- The matrix of R84, row Fx: the column is the low nibble of the opcode. -/
def matrixF (col : Nat) (op8 : Byte) (op16 : Word) : Instr :=
  match col with
  | 0 => .beq op8
  | 1 => .sbcIzy op8
  | 2 => .unkF2
  | 3 => .iscIzy op8
  | 4 => .nopZpxF4 op8
  | 5 => .sbcZpx op8
  | 6 => .incZpx op8
  | 7 => .iscZpx op8
  | 8 => .sed
  | 9 => .sbcAby op16
  | 10 => .nopFA
  | 11 => .iscAby op16
  | 12 => .nopAbxFC op16
  | 13 => .sbcAbx op16
  | 14 => .incAbx op16
  | _ => .iscAbx op16

/-- The lookup of R83: the high nibble of the opcode names the row of the matrix, the low nibble the column. `op8` and
`op16` are what R82 makes of the bytes after it, each used only where the mode takes it. -/
def instrOf (opcode op8 : Byte) (op16 : Word) : Instr :=
  let col := opcode.toNat % 16
  match opcode.toNat / 16 with
  | 0 => matrix0 col op8 op16
  | 1 => matrix1 col op8 op16
  | 2 => matrix2 col op8 op16
  | 3 => matrix3 col op8 op16
  | 4 => matrix4 col op8 op16
  | 5 => matrix5 col op8 op16
  | 6 => matrix6 col op8 op16
  | 7 => matrix7 col op8 op16
  | 8 => matrix8 col op8 op16
  | 9 => matrix9 col op8 op16
  | 10 => matrixA col op8 op16
  | 11 => matrixB col op8 op16
  | 12 => matrixC col op8 op16
  | 13 => matrixD col op8 op16
  | 14 => matrixE col op8 op16
  | _ => matrixF col op8 op16

/-- A row of the opcode table (30_encoding.md R83): the opcode byte, the mnemonic's text, the mode, the base cycle count.
A UNK row has no mode and no cycle count (R84); `.none` and 0 stand in its place and are used by nothing. -/
structure Row where
  opcode : Byte
  mnemonic : String
  mode : Mode
  cycles : Nat
  deriving DecidableEq, Repr

/-- The row of an instruction (30_encoding.md R84 to R87). -/
def Instr.row : Instr → Row
  | .brk => ⟨0x00, "BRK", .none, 7⟩
  | .oraIzx _ => ⟨0x01, "ORA", .izx, 6⟩
  | .unk02 => ⟨0x02, "UNK", .none, 0⟩
  | .sloIzx _ => ⟨0x03, "SLO", .izx, 8⟩
  | .nopZp04 _ => ⟨0x04, "NOP", .zp, 3⟩
  | .oraZp _ => ⟨0x05, "ORA", .zp, 3⟩
  | .aslZp _ => ⟨0x06, "ASL", .zp, 5⟩
  | .sloZp _ => ⟨0x07, "SLO", .zp, 5⟩
  | .php => ⟨0x08, "PHP", .none, 3⟩
  | .oraImm _ => ⟨0x09, "ORA", .imm, 2⟩
  | .aslA => ⟨0x0A, "ASL A", .none, 2⟩
  | .ancImm0B _ => ⟨0x0B, "ANC", .imm, 2⟩
  | .nopAbs0C _ => ⟨0x0C, "NOP", .abs, 4⟩
  | .oraAbs _ => ⟨0x0D, "ORA", .abs, 4⟩
  | .aslAbs _ => ⟨0x0E, "ASL", .abs, 6⟩
  | .sloAbs _ => ⟨0x0F, "SLO", .abs, 6⟩
  | .bpl _ => ⟨0x10, "BPL", .rel, 2⟩
  | .oraIzy _ => ⟨0x11, "ORA", .izy, 5⟩
  | .unk12 => ⟨0x12, "UNK", .none, 0⟩
  | .sloIzy _ => ⟨0x13, "SLO", .izy, 8⟩
  | .nopZpx14 _ => ⟨0x14, "NOP", .zpx, 4⟩
  | .oraZpx _ => ⟨0x15, "ORA", .zpx, 4⟩
  | .aslZpx _ => ⟨0x16, "ASL", .zpx, 6⟩
  | .sloZpx _ => ⟨0x17, "SLO", .zpx, 6⟩
  | .clc => ⟨0x18, "CLC", .none, 2⟩
  | .oraAby _ => ⟨0x19, "ORA", .aby, 4⟩
  | .nop1A => ⟨0x1A, "NOP", .none, 2⟩
  | .sloAby _ => ⟨0x1B, "SLO", .aby, 7⟩
  | .nopAbx1C _ => ⟨0x1C, "NOP", .abx, 4⟩
  | .oraAbx _ => ⟨0x1D, "ORA", .abx, 4⟩
  | .aslAbx _ => ⟨0x1E, "ASL", .abx, 7⟩
  | .sloAbx _ => ⟨0x1F, "SLO", .abx, 7⟩
  | .jsr _ => ⟨0x20, "JSR", .abs, 6⟩
  | .andIzx _ => ⟨0x21, "AND", .izx, 6⟩
  | .unk22 => ⟨0x22, "UNK", .none, 0⟩
  | .rlaIzx _ => ⟨0x23, "RLA", .izx, 8⟩
  | .bitZp _ => ⟨0x24, "BIT", .zp, 3⟩
  | .andZp _ => ⟨0x25, "AND", .zp, 3⟩
  | .rolZp _ => ⟨0x26, "ROL", .zp, 5⟩
  | .rlaZp _ => ⟨0x27, "RLA", .zp, 5⟩
  | .plp => ⟨0x28, "PLP", .none, 4⟩
  | .andImm _ => ⟨0x29, "AND", .imm, 2⟩
  | .rolA => ⟨0x2A, "ROL A", .none, 2⟩
  | .ancImm2B _ => ⟨0x2B, "ANC", .imm, 2⟩
  | .bitAbs _ => ⟨0x2C, "BIT", .abs, 4⟩
  | .andAbs _ => ⟨0x2D, "AND", .abs, 4⟩
  | .rolAbs _ => ⟨0x2E, "ROL", .abs, 6⟩
  | .rlaAbs _ => ⟨0x2F, "RLA", .abs, 6⟩
  | .bmi _ => ⟨0x30, "BMI", .rel, 2⟩
  | .andIzy _ => ⟨0x31, "AND", .izy, 5⟩
  | .unk32 => ⟨0x32, "UNK", .none, 0⟩
  | .rlaIzy _ => ⟨0x33, "RLA", .izy, 8⟩
  | .nopZpx34 _ => ⟨0x34, "NOP", .zpx, 4⟩
  | .andZpx _ => ⟨0x35, "AND", .zpx, 4⟩
  | .rolZpx _ => ⟨0x36, "ROL", .zpx, 6⟩
  | .rlaZpx _ => ⟨0x37, "RLA", .zpx, 6⟩
  | .sec => ⟨0x38, "SEC", .none, 2⟩
  | .andAby _ => ⟨0x39, "AND", .aby, 4⟩
  | .nop3A => ⟨0x3A, "NOP", .none, 2⟩
  | .rlaAby _ => ⟨0x3B, "RLA", .aby, 7⟩
  | .nopAbx3C _ => ⟨0x3C, "NOP", .abx, 4⟩
  | .andAbx _ => ⟨0x3D, "AND", .abx, 4⟩
  | .rolAbx _ => ⟨0x3E, "ROL", .abx, 7⟩
  | .rlaAbx _ => ⟨0x3F, "RLA", .abx, 7⟩
  | .rti => ⟨0x40, "RTI", .none, 6⟩
  | .eorIzx _ => ⟨0x41, "EOR", .izx, 6⟩
  | .unk42 => ⟨0x42, "UNK", .none, 0⟩
  | .sreIzx _ => ⟨0x43, "SRE", .izx, 8⟩
  | .nopZp44 _ => ⟨0x44, "NOP", .zp, 3⟩
  | .eorZp _ => ⟨0x45, "EOR", .zp, 3⟩
  | .lsrZp _ => ⟨0x46, "LSR", .zp, 5⟩
  | .sreZp _ => ⟨0x47, "SRE", .zp, 5⟩
  | .pha => ⟨0x48, "PHA", .none, 3⟩
  | .eorImm _ => ⟨0x49, "EOR", .imm, 2⟩
  | .lsrA => ⟨0x4A, "LSR A", .none, 2⟩
  | .alrImm _ => ⟨0x4B, "ALR", .imm, 2⟩
  | .jmpAbs _ => ⟨0x4C, "JMP", .abs, 3⟩
  | .eorAbs _ => ⟨0x4D, "EOR", .abs, 4⟩
  | .lsrAbs _ => ⟨0x4E, "LSR", .abs, 6⟩
  | .sreAbs _ => ⟨0x4F, "SRE", .abs, 6⟩
  | .bvc _ => ⟨0x50, "BVC", .rel, 2⟩
  | .eorIzy _ => ⟨0x51, "EOR", .izy, 5⟩
  | .unk52 => ⟨0x52, "UNK", .none, 0⟩
  | .sreIzy _ => ⟨0x53, "SRE", .izy, 8⟩
  | .nopZpx54 _ => ⟨0x54, "NOP", .zpx, 4⟩
  | .eorZpx _ => ⟨0x55, "EOR", .zpx, 4⟩
  | .lsrZpx _ => ⟨0x56, "LSR", .zpx, 6⟩
  | .sreZpx _ => ⟨0x57, "SRE", .zpx, 6⟩
  | .cli => ⟨0x58, "CLI", .none, 2⟩
  | .eorAby _ => ⟨0x59, "EOR", .aby, 4⟩
  | .nop5A => ⟨0x5A, "NOP", .none, 2⟩
  | .sreAby _ => ⟨0x5B, "SRE", .aby, 7⟩
  | .nopAbx5C _ => ⟨0x5C, "NOP", .abx, 4⟩
  | .eorAbx _ => ⟨0x5D, "EOR", .abx, 4⟩
  | .lsrAbx _ => ⟨0x5E, "LSR", .abx, 7⟩
  | .sreAbx _ => ⟨0x5F, "SRE", .abx, 7⟩
  | .rts => ⟨0x60, "RTS", .none, 6⟩
  | .adcIzx _ => ⟨0x61, "ADC", .izx, 6⟩
  | .unk62 => ⟨0x62, "UNK", .none, 0⟩
  | .rraIzx _ => ⟨0x63, "RRA", .izx, 8⟩
  | .nopZp64 _ => ⟨0x64, "NOP", .zp, 3⟩
  | .adcZp _ => ⟨0x65, "ADC", .zp, 3⟩
  | .rorZp _ => ⟨0x66, "ROR", .zp, 5⟩
  | .rraZp _ => ⟨0x67, "RRA", .zp, 5⟩
  | .pla => ⟨0x68, "PLA", .none, 4⟩
  | .adcImm _ => ⟨0x69, "ADC", .imm, 2⟩
  | .rorA => ⟨0x6A, "ROR A", .none, 2⟩
  | .arrImm _ => ⟨0x6B, "ARR", .imm, 2⟩
  | .jmpInd _ => ⟨0x6C, "JMP", .ind, 5⟩
  | .adcAbs _ => ⟨0x6D, "ADC", .abs, 4⟩
  | .rorAbs _ => ⟨0x6E, "ROR", .abs, 6⟩
  | .rraAbs _ => ⟨0x6F, "RRA", .abs, 6⟩
  | .bvs _ => ⟨0x70, "BVS", .rel, 2⟩
  | .adcIzy _ => ⟨0x71, "ADC", .izy, 5⟩
  | .unk72 => ⟨0x72, "UNK", .none, 0⟩
  | .rraIzy _ => ⟨0x73, "RRA", .izy, 8⟩
  | .nopZpx74 _ => ⟨0x74, "NOP", .zpx, 4⟩
  | .adcZpx _ => ⟨0x75, "ADC", .zpx, 4⟩
  | .rorZpx _ => ⟨0x76, "ROR", .zpx, 6⟩
  | .rraZpx _ => ⟨0x77, "RRA", .zpx, 6⟩
  | .sei => ⟨0x78, "SEI", .none, 2⟩
  | .adcAby _ => ⟨0x79, "ADC", .aby, 4⟩
  | .nop7A => ⟨0x7A, "NOP", .none, 2⟩
  | .rraAby _ => ⟨0x7B, "RRA", .aby, 7⟩
  | .nopAbx7C _ => ⟨0x7C, "NOP", .abx, 4⟩
  | .adcAbx _ => ⟨0x7D, "ADC", .abx, 4⟩
  | .rorAbx _ => ⟨0x7E, "ROR", .abx, 7⟩
  | .rraAbx _ => ⟨0x7F, "RRA", .abx, 7⟩
  | .nopImm80 _ => ⟨0x80, "NOP", .imm, 2⟩
  | .staIzx _ => ⟨0x81, "STA", .izx, 6⟩
  | .nopImm82 _ => ⟨0x82, "NOP", .imm, 2⟩
  | .saxIzx _ => ⟨0x83, "SAX", .izx, 6⟩
  | .styZp _ => ⟨0x84, "STY", .zp, 3⟩
  | .staZp _ => ⟨0x85, "STA", .zp, 3⟩
  | .stxZp _ => ⟨0x86, "STX", .zp, 3⟩
  | .saxZp _ => ⟨0x87, "SAX", .zp, 3⟩
  | .dey => ⟨0x88, "DEY", .none, 2⟩
  | .nopImm89 _ => ⟨0x89, "NOP", .imm, 2⟩
  | .txa => ⟨0x8A, "TXA", .none, 2⟩
  | .unk8B => ⟨0x8B, "UNK", .none, 0⟩
  | .styAbs _ => ⟨0x8C, "STY", .abs, 4⟩
  | .staAbs _ => ⟨0x8D, "STA", .abs, 4⟩
  | .stxAbs _ => ⟨0x8E, "STX", .abs, 4⟩
  | .saxAbs _ => ⟨0x8F, "SAX", .abs, 4⟩
  | .bcc _ => ⟨0x90, "BCC", .rel, 2⟩
  | .staIzy _ => ⟨0x91, "STA", .izy, 6⟩
  | .unk92 => ⟨0x92, "UNK", .none, 0⟩
  | .unk93 => ⟨0x93, "UNK", .none, 0⟩
  | .styZpx _ => ⟨0x94, "STY", .zpx, 4⟩
  | .staZpx _ => ⟨0x95, "STA", .zpx, 4⟩
  | .stxZpy _ => ⟨0x96, "STX", .zpy, 4⟩
  | .saxZpy _ => ⟨0x97, "SAX", .zpy, 4⟩
  | .tya => ⟨0x98, "TYA", .none, 2⟩
  | .staAby _ => ⟨0x99, "STA", .aby, 5⟩
  | .txs => ⟨0x9A, "TXS", .none, 2⟩
  | .unk9B => ⟨0x9B, "UNK", .none, 0⟩
  | .shyAbx _ => ⟨0x9C, "SHY", .abx, 5⟩
  | .staAbx _ => ⟨0x9D, "STA", .abx, 5⟩
  | .shxAby _ => ⟨0x9E, "SHX", .aby, 5⟩
  | .unk9F => ⟨0x9F, "UNK", .none, 0⟩
  | .ldyImm _ => ⟨0xA0, "LDY", .imm, 2⟩
  | .ldaIzx _ => ⟨0xA1, "LDA", .izx, 6⟩
  | .ldxImm _ => ⟨0xA2, "LDX", .imm, 2⟩
  | .laxIzx _ => ⟨0xA3, "LAX", .izx, 6⟩
  | .ldyZp _ => ⟨0xA4, "LDY", .zp, 3⟩
  | .ldaZp _ => ⟨0xA5, "LDA", .zp, 3⟩
  | .ldxZp _ => ⟨0xA6, "LDX", .zp, 3⟩
  | .laxZp _ => ⟨0xA7, "LAX", .zp, 3⟩
  | .tay => ⟨0xA8, "TAY", .none, 2⟩
  | .ldaImm _ => ⟨0xA9, "LDA", .imm, 2⟩
  | .tax => ⟨0xAA, "TAX", .none, 2⟩
  | .unkAB => ⟨0xAB, "UNK", .none, 0⟩
  | .ldyAbs _ => ⟨0xAC, "LDY", .abs, 4⟩
  | .ldaAbs _ => ⟨0xAD, "LDA", .abs, 4⟩
  | .ldxAbs _ => ⟨0xAE, "LDX", .abs, 4⟩
  | .laxAbs _ => ⟨0xAF, "LAX", .abs, 4⟩
  | .bcs _ => ⟨0xB0, "BCS", .rel, 2⟩
  | .ldaIzy _ => ⟨0xB1, "LDA", .izy, 5⟩
  | .unkB2 => ⟨0xB2, "UNK", .none, 0⟩
  | .laxIzy _ => ⟨0xB3, "LAX", .izy, 5⟩
  | .ldyZpx _ => ⟨0xB4, "LDY", .zpx, 4⟩
  | .ldaZpx _ => ⟨0xB5, "LDA", .zpx, 4⟩
  | .ldxZpy _ => ⟨0xB6, "LDX", .zpy, 4⟩
  | .laxZpy _ => ⟨0xB7, "LAX", .zpy, 4⟩
  | .clv => ⟨0xB8, "CLV", .none, 2⟩
  | .ldaAby _ => ⟨0xB9, "LDA", .aby, 4⟩
  | .tsx => ⟨0xBA, "TSX", .none, 2⟩
  | .unkBB => ⟨0xBB, "UNK", .none, 0⟩
  | .ldyAbx _ => ⟨0xBC, "LDY", .abx, 4⟩
  | .ldaAbx _ => ⟨0xBD, "LDA", .abx, 4⟩
  | .ldxAby _ => ⟨0xBE, "LDX", .aby, 4⟩
  | .laxAby _ => ⟨0xBF, "LAX", .aby, 4⟩
  | .cpyImm _ => ⟨0xC0, "CPY", .imm, 2⟩
  | .cmpIzx _ => ⟨0xC1, "CMP", .izx, 6⟩
  | .nopImmC2 _ => ⟨0xC2, "NOP", .imm, 2⟩
  | .dcpIzx _ => ⟨0xC3, "DCP", .izx, 8⟩
  | .cpyZp _ => ⟨0xC4, "CPY", .zp, 3⟩
  | .cmpZp _ => ⟨0xC5, "CMP", .zp, 3⟩
  | .decZp _ => ⟨0xC6, "DEC", .zp, 5⟩
  | .dcpZp _ => ⟨0xC7, "DCP", .zp, 5⟩
  | .iny => ⟨0xC8, "INY", .none, 2⟩
  | .cmpImm _ => ⟨0xC9, "CMP", .imm, 2⟩
  | .dex => ⟨0xCA, "DEX", .none, 2⟩
  | .axsImm _ => ⟨0xCB, "AXS", .imm, 2⟩
  | .cpyAbs _ => ⟨0xCC, "CPY", .abs, 4⟩
  | .cmpAbs _ => ⟨0xCD, "CMP", .abs, 4⟩
  | .decAbs _ => ⟨0xCE, "DEC", .abs, 6⟩
  | .dcpAbs _ => ⟨0xCF, "DCP", .abs, 6⟩
  | .bne _ => ⟨0xD0, "BNE", .rel, 2⟩
  | .cmpIzy _ => ⟨0xD1, "CMP", .izy, 5⟩
  | .unkD2 => ⟨0xD2, "UNK", .none, 0⟩
  | .dcpIzy _ => ⟨0xD3, "DCP", .izy, 8⟩
  | .nopZpxD4 _ => ⟨0xD4, "NOP", .zpx, 4⟩
  | .cmpZpx _ => ⟨0xD5, "CMP", .zpx, 4⟩
  | .decZpx _ => ⟨0xD6, "DEC", .zpx, 6⟩
  | .dcpZpx _ => ⟨0xD7, "DCP", .zpx, 6⟩
  | .cld => ⟨0xD8, "CLD", .none, 2⟩
  | .cmpAby _ => ⟨0xD9, "CMP", .aby, 4⟩
  | .nopDA => ⟨0xDA, "NOP", .none, 2⟩
  | .dcpAby _ => ⟨0xDB, "DCP", .aby, 7⟩
  | .nopAbxDC _ => ⟨0xDC, "NOP", .abx, 4⟩
  | .cmpAbx _ => ⟨0xDD, "CMP", .abx, 4⟩
  | .decAbx _ => ⟨0xDE, "DEC", .abx, 7⟩
  | .dcpAbx _ => ⟨0xDF, "DCP", .abx, 7⟩
  | .cpxImm _ => ⟨0xE0, "CPX", .imm, 2⟩
  | .sbcIzx _ => ⟨0xE1, "SBC", .izx, 6⟩
  | .nopImmE2 _ => ⟨0xE2, "NOP", .imm, 2⟩
  | .iscIzx _ => ⟨0xE3, "ISC", .izx, 8⟩
  | .cpxZp _ => ⟨0xE4, "CPX", .zp, 3⟩
  | .sbcZp _ => ⟨0xE5, "SBC", .zp, 3⟩
  | .incZp _ => ⟨0xE6, "INC", .zp, 5⟩
  | .iscZp _ => ⟨0xE7, "ISC", .zp, 5⟩
  | .inx => ⟨0xE8, "INX", .none, 2⟩
  | .sbcImm _ => ⟨0xE9, "SBC", .imm, 2⟩
  | .nop => ⟨0xEA, "NOP", .none, 2⟩
  | .sbcImmEB _ => ⟨0xEB, "SBC", .imm, 2⟩
  | .cpxAbs _ => ⟨0xEC, "CPX", .abs, 4⟩
  | .sbcAbs _ => ⟨0xED, "SBC", .abs, 4⟩
  | .incAbs _ => ⟨0xEE, "INC", .abs, 6⟩
  | .iscAbs _ => ⟨0xEF, "ISC", .abs, 6⟩
  | .beq _ => ⟨0xF0, "BEQ", .rel, 2⟩
  | .sbcIzy _ => ⟨0xF1, "SBC", .izy, 5⟩
  | .unkF2 => ⟨0xF2, "UNK", .none, 0⟩
  | .iscIzy _ => ⟨0xF3, "ISC", .izy, 8⟩
  | .nopZpxF4 _ => ⟨0xF4, "NOP", .zpx, 4⟩
  | .sbcZpx _ => ⟨0xF5, "SBC", .zpx, 4⟩
  | .incZpx _ => ⟨0xF6, "INC", .zpx, 6⟩
  | .iscZpx _ => ⟨0xF7, "ISC", .zpx, 6⟩
  | .sed => ⟨0xF8, "SED", .none, 2⟩
  | .sbcAby _ => ⟨0xF9, "SBC", .aby, 4⟩
  | .nopFA => ⟨0xFA, "NOP", .none, 2⟩
  | .iscAby _ => ⟨0xFB, "ISC", .aby, 7⟩
  | .nopAbxFC _ => ⟨0xFC, "NOP", .abx, 4⟩
  | .sbcAbx _ => ⟨0xFD, "SBC", .abx, 4⟩
  | .incAbx _ => ⟨0xFE, "INC", .abx, 7⟩
  | .iscAbx _ => ⟨0xFF, "ISC", .abx, 7⟩

/-- The operand value of an instruction (30_encoding.md R82): 0, the byte zero-extended, or the word. -/
def Instr.operand : Instr → Word
  | .brk => 0
  | .oraIzx op8 => zext16 op8
  | .unk02 => 0
  | .sloIzx op8 => zext16 op8
  | .nopZp04 op8 => zext16 op8
  | .oraZp op8 => zext16 op8
  | .aslZp op8 => zext16 op8
  | .sloZp op8 => zext16 op8
  | .php => 0
  | .oraImm op8 => zext16 op8
  | .aslA => 0
  | .ancImm0B op8 => zext16 op8
  | .nopAbs0C op16 => op16
  | .oraAbs op16 => op16
  | .aslAbs op16 => op16
  | .sloAbs op16 => op16
  | .bpl op8 => zext16 op8
  | .oraIzy op8 => zext16 op8
  | .unk12 => 0
  | .sloIzy op8 => zext16 op8
  | .nopZpx14 op8 => zext16 op8
  | .oraZpx op8 => zext16 op8
  | .aslZpx op8 => zext16 op8
  | .sloZpx op8 => zext16 op8
  | .clc => 0
  | .oraAby op16 => op16
  | .nop1A => 0
  | .sloAby op16 => op16
  | .nopAbx1C op16 => op16
  | .oraAbx op16 => op16
  | .aslAbx op16 => op16
  | .sloAbx op16 => op16
  | .jsr op16 => op16
  | .andIzx op8 => zext16 op8
  | .unk22 => 0
  | .rlaIzx op8 => zext16 op8
  | .bitZp op8 => zext16 op8
  | .andZp op8 => zext16 op8
  | .rolZp op8 => zext16 op8
  | .rlaZp op8 => zext16 op8
  | .plp => 0
  | .andImm op8 => zext16 op8
  | .rolA => 0
  | .ancImm2B op8 => zext16 op8
  | .bitAbs op16 => op16
  | .andAbs op16 => op16
  | .rolAbs op16 => op16
  | .rlaAbs op16 => op16
  | .bmi op8 => zext16 op8
  | .andIzy op8 => zext16 op8
  | .unk32 => 0
  | .rlaIzy op8 => zext16 op8
  | .nopZpx34 op8 => zext16 op8
  | .andZpx op8 => zext16 op8
  | .rolZpx op8 => zext16 op8
  | .rlaZpx op8 => zext16 op8
  | .sec => 0
  | .andAby op16 => op16
  | .nop3A => 0
  | .rlaAby op16 => op16
  | .nopAbx3C op16 => op16
  | .andAbx op16 => op16
  | .rolAbx op16 => op16
  | .rlaAbx op16 => op16
  | .rti => 0
  | .eorIzx op8 => zext16 op8
  | .unk42 => 0
  | .sreIzx op8 => zext16 op8
  | .nopZp44 op8 => zext16 op8
  | .eorZp op8 => zext16 op8
  | .lsrZp op8 => zext16 op8
  | .sreZp op8 => zext16 op8
  | .pha => 0
  | .eorImm op8 => zext16 op8
  | .lsrA => 0
  | .alrImm op8 => zext16 op8
  | .jmpAbs op16 => op16
  | .eorAbs op16 => op16
  | .lsrAbs op16 => op16
  | .sreAbs op16 => op16
  | .bvc op8 => zext16 op8
  | .eorIzy op8 => zext16 op8
  | .unk52 => 0
  | .sreIzy op8 => zext16 op8
  | .nopZpx54 op8 => zext16 op8
  | .eorZpx op8 => zext16 op8
  | .lsrZpx op8 => zext16 op8
  | .sreZpx op8 => zext16 op8
  | .cli => 0
  | .eorAby op16 => op16
  | .nop5A => 0
  | .sreAby op16 => op16
  | .nopAbx5C op16 => op16
  | .eorAbx op16 => op16
  | .lsrAbx op16 => op16
  | .sreAbx op16 => op16
  | .rts => 0
  | .adcIzx op8 => zext16 op8
  | .unk62 => 0
  | .rraIzx op8 => zext16 op8
  | .nopZp64 op8 => zext16 op8
  | .adcZp op8 => zext16 op8
  | .rorZp op8 => zext16 op8
  | .rraZp op8 => zext16 op8
  | .pla => 0
  | .adcImm op8 => zext16 op8
  | .rorA => 0
  | .arrImm op8 => zext16 op8
  | .jmpInd op16 => op16
  | .adcAbs op16 => op16
  | .rorAbs op16 => op16
  | .rraAbs op16 => op16
  | .bvs op8 => zext16 op8
  | .adcIzy op8 => zext16 op8
  | .unk72 => 0
  | .rraIzy op8 => zext16 op8
  | .nopZpx74 op8 => zext16 op8
  | .adcZpx op8 => zext16 op8
  | .rorZpx op8 => zext16 op8
  | .rraZpx op8 => zext16 op8
  | .sei => 0
  | .adcAby op16 => op16
  | .nop7A => 0
  | .rraAby op16 => op16
  | .nopAbx7C op16 => op16
  | .adcAbx op16 => op16
  | .rorAbx op16 => op16
  | .rraAbx op16 => op16
  | .nopImm80 op8 => zext16 op8
  | .staIzx op8 => zext16 op8
  | .nopImm82 op8 => zext16 op8
  | .saxIzx op8 => zext16 op8
  | .styZp op8 => zext16 op8
  | .staZp op8 => zext16 op8
  | .stxZp op8 => zext16 op8
  | .saxZp op8 => zext16 op8
  | .dey => 0
  | .nopImm89 op8 => zext16 op8
  | .txa => 0
  | .unk8B => 0
  | .styAbs op16 => op16
  | .staAbs op16 => op16
  | .stxAbs op16 => op16
  | .saxAbs op16 => op16
  | .bcc op8 => zext16 op8
  | .staIzy op8 => zext16 op8
  | .unk92 => 0
  | .unk93 => 0
  | .styZpx op8 => zext16 op8
  | .staZpx op8 => zext16 op8
  | .stxZpy op8 => zext16 op8
  | .saxZpy op8 => zext16 op8
  | .tya => 0
  | .staAby op16 => op16
  | .txs => 0
  | .unk9B => 0
  | .shyAbx op16 => op16
  | .staAbx op16 => op16
  | .shxAby op16 => op16
  | .unk9F => 0
  | .ldyImm op8 => zext16 op8
  | .ldaIzx op8 => zext16 op8
  | .ldxImm op8 => zext16 op8
  | .laxIzx op8 => zext16 op8
  | .ldyZp op8 => zext16 op8
  | .ldaZp op8 => zext16 op8
  | .ldxZp op8 => zext16 op8
  | .laxZp op8 => zext16 op8
  | .tay => 0
  | .ldaImm op8 => zext16 op8
  | .tax => 0
  | .unkAB => 0
  | .ldyAbs op16 => op16
  | .ldaAbs op16 => op16
  | .ldxAbs op16 => op16
  | .laxAbs op16 => op16
  | .bcs op8 => zext16 op8
  | .ldaIzy op8 => zext16 op8
  | .unkB2 => 0
  | .laxIzy op8 => zext16 op8
  | .ldyZpx op8 => zext16 op8
  | .ldaZpx op8 => zext16 op8
  | .ldxZpy op8 => zext16 op8
  | .laxZpy op8 => zext16 op8
  | .clv => 0
  | .ldaAby op16 => op16
  | .tsx => 0
  | .unkBB => 0
  | .ldyAbx op16 => op16
  | .ldaAbx op16 => op16
  | .ldxAby op16 => op16
  | .laxAby op16 => op16
  | .cpyImm op8 => zext16 op8
  | .cmpIzx op8 => zext16 op8
  | .nopImmC2 op8 => zext16 op8
  | .dcpIzx op8 => zext16 op8
  | .cpyZp op8 => zext16 op8
  | .cmpZp op8 => zext16 op8
  | .decZp op8 => zext16 op8
  | .dcpZp op8 => zext16 op8
  | .iny => 0
  | .cmpImm op8 => zext16 op8
  | .dex => 0
  | .axsImm op8 => zext16 op8
  | .cpyAbs op16 => op16
  | .cmpAbs op16 => op16
  | .decAbs op16 => op16
  | .dcpAbs op16 => op16
  | .bne op8 => zext16 op8
  | .cmpIzy op8 => zext16 op8
  | .unkD2 => 0
  | .dcpIzy op8 => zext16 op8
  | .nopZpxD4 op8 => zext16 op8
  | .cmpZpx op8 => zext16 op8
  | .decZpx op8 => zext16 op8
  | .dcpZpx op8 => zext16 op8
  | .cld => 0
  | .cmpAby op16 => op16
  | .nopDA => 0
  | .dcpAby op16 => op16
  | .nopAbxDC op16 => op16
  | .cmpAbx op16 => op16
  | .decAbx op16 => op16
  | .dcpAbx op16 => op16
  | .cpxImm op8 => zext16 op8
  | .sbcIzx op8 => zext16 op8
  | .nopImmE2 op8 => zext16 op8
  | .iscIzx op8 => zext16 op8
  | .cpxZp op8 => zext16 op8
  | .sbcZp op8 => zext16 op8
  | .incZp op8 => zext16 op8
  | .iscZp op8 => zext16 op8
  | .inx => 0
  | .sbcImm op8 => zext16 op8
  | .nop => 0
  | .sbcImmEB op8 => zext16 op8
  | .cpxAbs op16 => op16
  | .sbcAbs op16 => op16
  | .incAbs op16 => op16
  | .iscAbs op16 => op16
  | .beq op8 => zext16 op8
  | .sbcIzy op8 => zext16 op8
  | .unkF2 => 0
  | .iscIzy op8 => zext16 op8
  | .nopZpxF4 op8 => zext16 op8
  | .sbcZpx op8 => zext16 op8
  | .incZpx op8 => zext16 op8
  | .iscZpx op8 => zext16 op8
  | .sed => 0
  | .sbcAby op16 => op16
  | .nopFA => 0
  | .iscAby op16 => op16
  | .nopAbxFC op16 => op16
  | .sbcAbx op16 => op16
  | .incAbx op16 => op16
  | .iscAbx op16 => op16

/-- The operand-byte count of an opcode byte (30_encoding.md R81: known from the opcode byte alone). -/
def operandCount (opcode : Byte) : Nat := (instrOf opcode 0 0).row.mode.operandBytes

/-- Why the decoder rejects a list of bytes. The machine's own fetch always has its bytes, so no step meets one. -/
inductive DecodeError where
  /-- no opcode byte -/
  | noOpcode
  /-- fewer operand bytes than the opcode's mode takes -/
  | missingOperand
  deriving DecidableEq, Repr

/-- The instruction at the head of a list of bytes, lowest address first, and the bytes after it (30_encoding.md R80 to
R83, R89: every opcode value and every operand byte decodes). -/
def decode : List Byte → Except DecodeError (Instr × List Byte)
  | [] => .error .noOpcode
  | opcode :: rest =>
    match operandCount opcode, rest with
    | 0, rest => .ok (instrOf opcode 0 0, rest)
    | 1, b :: rest => .ok (instrOf opcode b 0, rest)
    | 2, lo :: hi :: rest => .ok (instrOf opcode 0 (mkWord hi lo), rest)
    | _, _ => .error .missingOperand

/-- The bytes of an instruction, lowest address first (30_encoding.md R80, R82). -/
def encode (i : Instr) : List Byte :=
  match i.row.mode.operandBytes with
  | 0 => [i.row.opcode]
  | 1 => [i.row.opcode, loByte i.operand]
  | _ => [i.row.opcode, loByte i.operand, hiByte i.operand]

/-- The three bytes (the longest instruction) whose bits, the first byte least significant, are the low `nbits` of `w`. -/
def tableBytes (nbits w : Nat) : List Byte :=
  let v := w % 2 ^ nbits
  [BitVec.ofNat 8 v, BitVec.ofNat 8 (v / 2 ^ 8), BitVec.ofNat 8 (v / 2 ^ 16)]

/-- The instruction the decoder reads from an instruction whose bits, numbered as spec/opcode_table.json numbers them,
are the low `nbits` of `w`, with every bit above them 0. -/
def decodeTableWord (nbits w : Nat) : Option Instr :=
  match decode (tableBytes nbits w) with
  | .ok (i, _) => some i
  | .error _ => none

end Sys2Proof
end

