-- ==== Sys2Proof/Machine/Bus.lean ====
section
/-! DEFINITION. Memory contents in their one canonical form, the devices, and the address decoder (20_memory.md R50 to
R58). Reads return the byte and what they leave of the device, since a device's read may change it (R55). -/

namespace Sys2Proof

/-- What an index of a RAM or ROM reads as when nothing is listed there (20_memory.md R56: zero at construction). -/
def Memory.unlisted : Byte := 0

/-- The byte at an index. -/
def Memory.read : Memory → Nat → Byte
  | [], _ => Memory.unlisted
  | (k, v) :: m, i => if i = k then v else Memory.read m i

/-- The contents with the byte `v` at index `i`: the entry is put in its place, replaced, or, where `v` is what an
unlisted index reads as, removed. -/
def Memory.write : Memory → Nat → Byte → Memory
  | [], i, v => if v = Memory.unlisted then [] else [(i, v)]
  | (k, w) :: m, i, v =>
    if i < k then (if v = Memory.unlisted then (k, w) :: m else (i, v) :: (k, w) :: m)
    else if i = k then (if v = Memory.unlisted then m else (k, v) :: m)
    else (k, w) :: Memory.write m i v

/-- Every index of `m` is above `k`, looking at the first entry only (the canonical form is rising). -/
def Memory.above (k : Nat) : Memory → Bool
  | [] => true
  | (k', _) :: _ => decide (k < k')

/-- The canonical form: indexes strictly rising, no entry equal to what an unlisted index reads as. -/
def Memory.wf : Memory → Bool
  | [] => true
  | (k, v) :: m => decide (v ≠ Memory.unlisted) && Memory.above k m && Memory.wf m

/-- Every index of `m` is below `size`. -/
def Memory.below (size : Nat) (m : Memory) : Bool := m.all fun c => decide (c.1 < size)

/-- `read` of a device (20_memory.md R55 to R57): RAM and ROM answer the byte at `offset mod size` and do not change. -/
def Store.read : Store → Nat → Byte × Store
  | .ram size m, off => (Memory.read m (off % size), .ram size m)
  | .rom size m, off => (Memory.read m (off % size), .rom size m)
  | .foreign id st, off => ((Config.foreignRead id st off).1, .foreign id (Config.foreignRead id st off).2)

/-- `write` of a device (20_memory.md R55 to R57): a RAM stores at `offset mod size`, a ROM drops the write. -/
def Store.write : Store → Nat → Byte → Store
  | .ram size m, off, v => .ram size (Memory.write m (off % size) v)
  | .rom size m, _, _ => .rom size m
  | .foreign id st, off, v => .foreign id (Config.foreignWrite id st off v)

/-- Filling a RAM's or ROM's buffer directly, as the host may (70_reset_and_hazards.md R356); a foreign device can only
be written. -/
def Store.fill : Store → Nat → Byte → Store
  | .ram size m, off, v => .ram size (Memory.write m (off % size) v)
  | .rom size m, off, v => .rom size (Memory.write m (off % size) v)
  | .foreign id st, off, v => .foreign id (Config.foreignWrite id st off v)

/-- `start <= addr <= end` (20_memory.md R52). -/
def Device.covers (d : Device) (a : Word) : Bool := decide (d.first ≤ a) && decide (a ≤ d.last)

/-- The offset the bus passes: `addr - start` (20_memory.md R55). -/
def Device.offset (d : Device) (a : Word) : Nat := a.toNat - d.first.toNat

/-- `BUS_READ` (20_memory.md R52): the first triple that covers the address answers; with none, the byte 0 and no
device is touched (R54). -/
def busRead : List Device → Word → Byte × List Device
  | [], _ => (0, [])
  | d :: ds, a =>
    if d.covers a then
      ((d.store.read (d.offset a)).1, { d with store := (d.store.read (d.offset a)).2 } :: ds)
    else ((busRead ds a).1, d :: (busRead ds a).2)

/-- `BUS_WRITE` (20_memory.md R53): the first triple that covers the address receives the byte; with none, the write is
dropped (R54). -/
def busWrite : List Device → Word → Byte → List Device
  | [], _, _ => []
  | d :: ds, a, v =>
    if d.covers a then { d with store := d.store.write (d.offset a) v } :: ds
    else d :: busWrite ds a v

/-- The host filling a device's buffer directly at a bus address (70_reset_and_hazards.md R356). -/
def busFill : List Device → Word → Byte → List Device
  | [], _, _ => []
  | d :: ds, a, v =>
    if d.covers a then { d with store := d.store.fill (d.offset a) v } :: ds
    else d :: busFill ds a v

/-- A foreign device with another state of its own; a RAM or a ROM is not one and stays (notes/assumptions/4.md). -/
def Store.adopt (st : List Byte) : Store → Store
  | .ram size m => .ram size m
  | .rom size m => .rom size m
  | .foreign id _ => .foreign id st

/-- The device table with another state of the foreign device at a position (notes/assumptions/4.md). -/
def busAdopt : List Device → Nat → List Byte → List Device
  | [], _, _ => []
  | d :: ds, 0, st => { d with store := d.store.adopt st } :: ds
  | d :: ds, n + 1, st => d :: busAdopt ds n st

/-- A RAM or a ROM: a device the block describes, whose reads have no side effect (20_memory.md R66). -/
def Device.plain (d : Device) : Bool :=
  match d.store with
  | .ram _ _ => true
  | .rom _ _ => true
  | .foreign _ _ => false

/-- The contents of a RAM or ROM are canonical and inside the buffer. -/
def Store.contentsOk : Store → Bool
  | .ram size m => Memory.wf m && Memory.below size m
  | .rom size m => Memory.wf m && Memory.below size m
  | .foreign _ _ => true

/-- A device of a well-formed platform: its window, its size and the canonical form of its contents. -/
def Device.ok (d : Device) : Bool := d.windowOk && d.store.sizeOk && d.store.contentsOk

/-- A well-formed device table. -/
def devicesOk (ds : List Device) : Bool := ds.all Device.ok

/-- What no tick may change of a device: its window, its kind and size, and all of a ROM (20_memory.md R51, R57). The
contents of a RAM and the state of a foreign device are left out. -/
def Device.fixedPart (d : Device) : Word × Word × Store :=
  (d.first, d.last,
    match d.store with
    | .ram size _ => .ram size []
    | .rom size m => .rom size m
    | .foreign id _ => .foreign id [])

end Sys2Proof
end

