-- ==== Sys2Proof/Machine/Flags.lean ====
section
/-! DEFINITION. The flags of P (10_state.md R24) and every flag computation of the spec: set_nz and compare (40 R121,
R122), the copies of P on the stack (46 R230, R241, R242; 60 R306), ADC and SBC binary and decimal (42 R151 to R157),
ARR binary and decimal (47 R271, R272), and the one-bit shifts (43 R174 to R182). -/

namespace Sys2Proof.Machine

/-- The flags, by the letter of 10_state.md R24. -/
inductive Flag where
  | C | Z | I | D | B | U | V | N
  deriving DecidableEq, Repr

/-- The bit of P a flag is (10_state.md R24). -/
def Flag.bit : Flag → Nat
  | .C => 0
  | .Z => 1
  | .I => 2
  | .D => 3
  | .B => 4
  | .U => 5
  | .V => 6
  | .N => 7

/-- The mask of a flag (00_scope.md R10). -/
def Flag.mask (f : Flag) : Byte := 1#8 <<< f.bit

/-- A flag of a status byte. -/
def getFlag (f : Flag) (p : Byte) : Bool := p.getLsbD f.bit

/-- A status byte with one flag written and the other seven unchanged (00_scope.md R10). -/
def putFlag (f : Flag) (b : Bool) (p : Byte) : Byte := if b then p ||| f.mask else p &&& ~~~f.mask

/-- A carry as a number. -/
def bit (c : Bool) : Nat := if c then 1 else 0

/-- A carry as bit 0 of a byte. -/
def bitByte (c : Bool) : Byte := if c then 1 else 0

/-- `set_nz(v)` (40 R121) on a status byte. -/
def nzOf (v p : Byte) : Byte := putFlag .Z (v == 0) (putFlag .N (v.getLsbD 7) p)

/-- `compare(a, b)` (40 R122) on a status byte: N and Z of the difference, C iff `a >= b` unsigned. -/
def compareOf (a b p : Byte) : Byte := putFlag .C (decide (b ≤ a)) (nzOf (a - b) p)

/-- The copy of P a push puts on the stack: U set, B set by BRK and PHP (46 R230, R241) and clear for an interrupt
(60 R306). -/
def pushedStatus (brk : Bool) (p : Byte) : Byte := if brk then p ||| 0x30 else (p &&& 0xEF) ||| 0x20

/-- What PLP and RTI make of a pulled byte: B and U forced to 1 (46 R242, 45 R213). -/
def pulledStatus (v : Byte) : Byte := v ||| 0x30

/-- A result with the four flags ADC, SBC and ARR write (10_state.md R33). -/
structure Alu where
  r : Byte
  n : Bool
  v : Bool
  z : Bool
  c : Bool
  deriving DecidableEq, Repr

/-- Those four flags into P. -/
def Alu.flags (o : Alu) (p : Byte) : Byte := putFlag .N o.n (putFlag .V o.v (putFlag .Z o.z (putFlag .C o.c p)))

/-- The overflow formula of ADC, `(~(A ^ M) & (A ^ t) & 0x80) != 0` (42 R151). -/
def addOverflow (a m t : Byte) : Bool := (~~~(a ^^^ m) &&& (a ^^^ t) &&& 0x80) != 0

/-- The overflow formula of SBC, `((A ^ M) & (A ^ r) & 0x80) != 0` (42 R156). -/
def subOverflow (a m r : Byte) : Bool := ((a ^^^ m) &&& (a ^^^ r) &&& 0x80) != 0

/-- ADC, binary path (42 R151): the exact sum, then narrowed. -/
def adcBinary (a m : Byte) (c : Bool) : Alu :=
  let t := a.toNat + m.toNat + bit c
  let r := BitVec.ofNat 8 t
  { r := r, n := r.getLsbD 7, v := addOverflow a m r, z := r == 0, c := decide (t > 0xFF) }

/-- ADC, decimal path (42 R152): N and V from the sum before the high-digit fix-up, Z from the binary sum. -/
def adcDecimal (a m : Byte) (c : Bool) : Alu :=
  let lo := a.toNat % 16 + m.toNat % 16 + bit c
  let al := if lo ≥ 0x0A then (lo + 0x06) % 16 + 0x10 else lo
  let t := a.toNat / 16 * 16 + m.toNat / 16 * 16 + al
  let u := if t ≥ 0xA0 then t + 0x60 else t
  { r := BitVec.ofNat 8 u, n := t.testBit 7, v := addOverflow a m (BitVec.ofNat 8 t)
    z := decide ((a.toNat + m.toNat + bit c) % 256 = 0), c := decide (u ≥ 0x100) }

/-- SBC, binary path, and the flags of both paths (42 R156): the exact difference, then narrowed. -/
def sbcBinary (a m : Byte) (c : Bool) : Alu :=
  let t : Int := a.toNat - m.toNat - (1 - bit c)
  let r := BitVec.ofInt 8 t
  { r := r, n := r.getLsbD 7, v := subOverflow a m r, z := r == 0, c := decide (t ≥ 0) }

/-- SBC, the value the decimal path writes to A (42 R157). -/
def sbcDecimalResult (a m : Byte) (c : Bool) : Byte :=
  let lo : Int := (a.toNat % 16 : Nat) - (m.toNat % 16 : Nat) + bit c - 1
  let al : Int := if lo < 0 then (lo - 0x06) % 16 - 0x10 else lo
  let r : Int := (a.toNat / 16 * 16 : Nat) - (m.toNat / 16 * 16 : Nat) + al
  BitVec.ofInt 8 (if r < 0 then r - 0x60 else r)

/-- SBC, decimal path (42 R157): the flags of R156 with the decimal result. -/
def sbcDecimal (a m : Byte) (c : Bool) : Alu := { sbcBinary a m c with r := sbcDecimalResult a m c }

/-- Rotate right with carry in, the bit rotated out dropped (47 R271, R272). -/
def rotatedIn (t : Byte) (c : Bool) : Byte := (t >>> 1) ||| (bitByte c <<< 7)

/-- ARR, binary path (47 R271), on `t = A & M`. -/
def arrBinary (t : Byte) (c : Bool) : Alu :=
  let a := rotatedIn t c
  { r := a, n := a.getLsbD 7, v := a.getLsbD 6 ^^ a.getLsbD 5, z := a == 0, c := a.getLsbD 6 }

/-- ARR, decimal path (47 R272), on `t = A & M`: N, Z and V from the rotated value before the fix-ups. -/
def arrDecimal (t : Byte) (c : Bool) : Alu :=
  let ah := t.toNat / 16
  let al := t.toNat % 16
  let a := rotatedIn t c
  let lowFix := if al + al % 2 > 5 then (a &&& 0xF0) ||| ((a + 6) &&& 0x0F) else a
  let carry := decide (ah + ah % 2 > 5)
  { r := if carry then lowFix + 0x60 else lowFix
    n := c, v := ((t ^^^ a) &&& 0x40) != 0, z := a == 0, c := carry }

/-- A one-bit shift: from the carry in and a byte, the byte shifted and the carry out. -/
abbrev Shift := Bool → Byte → Byte × Bool

/-- ASL (43 R174, R179). -/
def aslOf : Shift := fun _ m => (m <<< 1, m.getLsbD 7)
/-- LSR (43 R175, R180). -/
def lsrOf : Shift := fun _ m => (m >>> 1, m.getLsbD 0)
/-- ROL (43 R176, R181). -/
def rolOf : Shift := fun c m => ((m <<< 1) ||| bitByte c, m.getLsbD 7)
/-- ROR (43 R177, R182). -/
def rorOf : Shift := fun c m => ((m >>> 1) ||| (bitByte c <<< 7), m.getLsbD 0)

end Sys2Proof.Machine
end

