-- ==== Sys2Proof/Machine/State.lean ====
section
/-! DEFINITION. The state of the machine as plain data (10_state.md section 1, one field per row of its table, and the
parameters of 00_scope.md R7), the ways a step can stop, and the machine right after reset. -/

namespace Sys2Proof.Machine

/-- One line of the trace (60_exceptions.md R331), as data: the address of the opcode, the instruction disassembled
there, and the registers of the status string after execution. `Machine/Observers.lean` writes it out as text. -/
structure TraceLine where
  opAddr : Word
  instr : Instr
  a : Byte
  x : Byte
  y : Byte
  sp : Byte
  p : Byte
  pc : Word
  deriving DecidableEq, Repr

/-- The state of the CPU and of the bus. -/
structure State where
  /-- accumulator (10_state.md R20) -/
  a : Byte
  /-- index register (R21) -/
  x : Byte
  /-- index register (R21) -/
  y : Byte
  /-- stack pointer, an index into page 1 (R22) -/
  sp : Byte
  /-- status: N V U B D I Z C, bits 7 to 0, all eight stored (R24) -/
  p : Byte
  /-- address of the next byte to fetch (R23) -/
  pc : Word
  /-- ticks remaining before the next fetch or service (R34, D30) -/
  waitCycles : Nat
  /-- latched IRQ request (R35) -/
  pendingIrq : Bool
  /-- latched NMI request (R35) -/
  pendingNmi : Bool
  /-- host configuration: force the binary path whatever D is (R36) -/
  decimalDisabled : Bool
  /-- host configuration, the spec's `Debug`: emit trace lines (R37) -/
  debugOn : Bool
  /-- the parameters the spec adds (00_scope.md R7); no instruction changes them -/
  params : Params
  /-- the device table with every device's contents, first installed first (R40, R43) -/
  devices : List Device
  /-- the tick subscribers, first registered first (R41) -/
  tickers : List Ticker
  /-- number of `BUS_TICK` events so far (R42, D20) -/
  tickCount : Nat
  /-- what has gone to standard output, oldest line first (60_exceptions.md R331); the model's own field -/
  trace : List TraceLine
  deriving DecidableEq, Repr

/-- The errors a tick returns to the host (60_exceptions.md R300). Each carries the state it leaves, from which the
machine would go on if the host ticked again (R320). -/
inductive Fault where
  /-- The fatal core error (60_exceptions.md R320): raised by each of the eighteen UNK rows of exec, with the address the
  opcode was fetched from. SAFE: the spec's own error, and its treatment in 93_implementation_defined.md U2. -/
  | unknownOpcode (opAddr : Word) (left : State)
  /-- The ticker error (60_exceptions.md R321): raised by the bus tick when the subscriber `id` reports failure; the
  later tickers are not invoked. SAFE: the spec's own error. -/
  | tickerError (id : Nat) (left : State)
  deriving DecidableEq, Repr

/-- Instructions without a meaning. -/
inductive Refusal where
  /-- Raised only by an arm of exec for an instruction not modelled yet; SAFE; no arm is such at present. -/
  | notModelled (mnemonic : String)
  deriving DecidableEq, Repr

/-- The outcome of a step or of an instruction. -/
abbrev Result := Host.Outcome State Fault Refusal

/-- The platform of `State.reset`: one RAM of 65536 bytes, all zero, over the whole address space, which is the platform
of 95_test_vectors.md. DESIGN CHOICE (notes/assumptions/1.md): the device table is the host's. -/
def defaultDevices : List Device := [{ first := 0x0000, last := 0xFFFF, store := .ram 65536 [] }]

/-- The machine right after construction and reset (70_reset_and_hazards.md R340, R341): the register values of R340,
PC the word at `$FFFC`, which is 0 since memory lists nothing, and the platform of `defaultDevices`. -/
def State.reset : State :=
  { a := 0xAA, x := 0x00, y := 0x00, sp := 0xFD, p := 0x34, pc := 0x0000
    waitCycles := 0, pendingIrq := false, pendingNmi := false
    decimalDisabled := false, debugOn := false, params := Params.default
    devices := defaultDevices, tickers := [.cpu], tickCount := 0, trace := [] }

end Sys2Proof.Machine
end

