-- ==== Sys2Proof/Machine/Ops.lean ====
section
/-! DEFINITION. The named operations over registers and memory (00_scope.md R10, R11), the stack (40 R117 to R120), the
fetch of an instruction's bytes (40 R100 steps 3 to 5), entering a handler and returning from one (60_exceptions.md
R306, 46 R230, 45 R213), and the host's events (00_scope.md R8). -/

namespace Sys2Proof.Machine

/-! ## Registers -/

/-- `A <- v`. -/
def State.setA (s : State) (v : Byte) : State := { s with a := v }
/-- `X <- v`. -/
def State.setX (s : State) (v : Byte) : State := { s with x := v }
/-- `Y <- v`. -/
def State.setY (s : State) (v : Byte) : State := { s with y := v }
/-- `SP <- v`. -/
def State.setSp (s : State) (v : Byte) : State := { s with sp := v }
/-- `P <- v`. -/
def State.setP (s : State) (v : Byte) : State := { s with p := v }
/-- `PC <- v`. -/
def State.setPc (s : State) (v : Word) : State := { s with pc := v }
/-- `wait <- wait + n` (00_scope.md R12). -/
def State.addWait (s : State) (n : Nat) : State := { s with waitCycles := s.waitCycles + n }
/-- The value of a flag. -/
def State.flag (s : State) (f : Flag) : Bool := getFlag f s.p
/-- `P.f <- b`. -/
def State.setFlag (s : State) (f : Flag) (b : Bool) : State := s.setP (putFlag f b s.p)
/-- `set_nz(v)` (40 R121). -/
def State.setNZ (s : State) (v : Byte) : State := s.setP (nzOf v s.p)

/-! ## Memory -/

/-- What a bus access leaves of the device table. -/
def State.setDevices (s : State) (ds : List Device) : State := { s with devices := ds }

/-- `MemRead(addr)` (00_scope.md R11): the byte, and the state after the access. -/
def State.memRead (s : State) (a : Word) : Byte × State :=
  ((busRead s.devices a).1, s.setDevices (busRead s.devices a).2)

/-- `MemWrite(addr, v)` (00_scope.md R11). -/
def State.memWrite (s : State) (a : Word) (v : Byte) : State := s.setDevices (busWrite s.devices a v)

/-- The byte a read of `a` gives, without the read's effect on a device: what a statement about memory speaks of. -/
def State.peek (s : State) (a : Word) : Byte := (busRead s.devices a).1

/-- Every device is a RAM or a ROM. -/
def State.plainBus (s : State) : Bool := s.devices.all Device.plain

/-- A word from two byte reads, the one at `aLo` first (20_memory.md R62, R64). -/
def State.memRead2 (s : State) (aLo aHi : Word) : Word × State :=
  let lo := s.memRead aLo
  let hi := lo.2.memRead aHi
  (mkWord hi.1 lo.1, hi.2)

/-! ## The stack -/

/-- The stack address `0x0100 | SP` (10_state.md R22). -/
def stackAddr (sp : Byte) : Word := 0x0100 ||| zext16 sp

/-- `push8(v)` (40 R117): the byte is written, then SP decreases modulo 256. -/
def State.push8 (s : State) (v : Byte) : State := (s.memWrite (stackAddr s.sp) v).setSp (s.sp - 1)

/-- `pop8()` (40 R118): SP increases modulo 256, then the byte is read. -/
def State.pop8 (s : State) : Byte × State := (s.setSp (s.sp + 1)).memRead (stackAddr (s.sp + 1))

/-- `push16(w)` (40 R119): high byte, then low byte. -/
def State.push16 (s : State) (w : Word) : State := (s.push8 (hiByte w)).push8 (loByte w)

/-- `pop16()` (40 R120): low byte, then high byte. -/
def State.pop16 (s : State) : Word × State :=
  let lo := s.pop8
  let hi := lo.2.pop8
  (mkWord hi.1 lo.1, hi.2)

/-! ## Fetching (40 R100 steps 3 to 5; 30 R82) -/

/-- One byte at PC, and PC one further, modulo 65536 (10_state.md R23). -/
def State.fetchByte (s : State) : Byte × State :=
  let b := s.memRead s.pc
  (b.1, b.2.setPc (s.pc + 1))

/-- The instruction at PC, its opcode byte read first and then its operand bytes, low byte first, and the state with PC
past all of them. -/
def State.fetch (s : State) : Instr × State :=
  let op := s.fetchByte
  match operandCount op.1 with
  | 0 => (instrOf op.1 0 0, op.2)
  | 1 =>
    let b := op.2.fetchByte
    (instrOf op.1 b.1 0, b.2)
  | _ =>
    let lo := op.2.fetchByte
    let hi := lo.2.fetchByte
    (instrOf op.1 0 (mkWord hi.1 lo.1), hi.2)

/-! ## Handlers: entry and return -/

/-- The NMI vector (60_exceptions.md R307). -/
def nmiVector : Word := 0xFFFA
/-- The reset vector (60_exceptions.md R307). -/
def resetVector : Word := 0xFFFC
/-- The vector of IRQ and BRK (60_exceptions.md R307). -/
def irqVector : Word := 0xFFFE
/-- The cost of an interrupt service (60_exceptions.md R306). -/
def serviceCycles : Nat := 7

/-- Taking an exception, the one operation of BRK (46 R230) and of interrupt service (60 R306): push `ret`, push P with
B as given and U set, set I, load PC from the vector, low byte first. Nothing else of P changes. -/
def State.enterHandler (s : State) (ret : Word) (brk : Bool) (vec : Word) : State :=
  let s1 := (s.push16 ret).push8 (pushedStatus brk s.p)
  let v := (s1.setFlag .I true).memRead2 vec (vec + 1)
  v.2.setPc v.1

/-- RTI (45 R213): P from the stack with B and U forced to 1, then PC from the stack, no + 1. -/
def State.returnFromHandler (s : State) : State :=
  let f := s.pop8
  let r := (f.2.setP (pulledStatus f.1)).pop16
  r.2.setPc r.1

/-- The NMI service tick (40 R100 step 2, 60 R306). -/
def State.serviceNmi (s : State) : State :=
  { s.enterHandler s.pc false nmiVector with pendingNmi := false, waitCycles := serviceCycles }

/-- The IRQ service tick (40 R100 step 2, 60 R306). -/
def State.serviceIrq (s : State) : State :=
  { s.enterHandler s.pc false irqVector with pendingIrq := false, waitCycles := serviceCycles }

/-- The fatal core error (60_exceptions.md R320): raised with PC one past the opcode, which it reports. -/
def unknownOpcode (s : State) : Result :=
  match s.params.unkPolicy with
  | .fatal => .fault (.unknownOpcode (s.pc - 1) s)

/-! ## The host's events, between ticks (00_scope.md R8, 70 R356) -/

/-- `RESET` (70_reset_and_hazards.md R340): two bus reads, no write. -/
def State.resetEvent (s : State) : State :=
  let v := s.memRead2 resetVector (resetVector + 1)
  { v.2 with
    a := 0xAA, x := 0x00, y := 0x00, sp := 0xFD, p := 0x34, pc := v.1, waitCycles := 0
    pendingIrq := if s.params.resetClearsLatches then false else s.pendingIrq
    pendingNmi := if s.params.resetClearsLatches then false else s.pendingNmi }

/-- `IRQ_REQ` (60_exceptions.md R302): latched if I is clear at this moment, else dropped. -/
def State.irqReq (s : State) : State := if s.flag .I then s else { s with pendingIrq := true }

/-- `NMI_REQ` (60_exceptions.md R303): latched whatever I is. -/
def State.nmiReq (s : State) : State := { s with pendingNmi := true }

/-- `INSTALL_DEVICE` (20_memory.md R51). -/
def State.installDevice (s : State) (d : Device) : State := { s with devices := s.devices ++ [d] }

/-- `INSTALL_TICKER` (20_memory.md R59). -/
def State.installTicker (s : State) (t : Ticker) : State := { s with tickers := s.tickers ++ [t] }

/-- `new(bus) -> Cpu` (70_reset_and_hazards.md R341) on a bus with these devices and tickers: the CPU registers itself
and resets. The values before the reset are overwritten by it. -/
def State.construct (devices : List Device) (before : List Ticker) : State :=
  (State.installTicker { State.reset with devices := devices, tickers := before } .cpu).resetEvent

/-- The host's writes of `A, X, Y, SP, P, PC` (92_eei_decisions.md D24). -/
def State.hostWrite (s : State) (a x y sp p : Byte) (pc : Word) : State :=
  { s with a := a, x := x, y := y, sp := sp, p := p, pc := pc }

/-- The host setting `decimalDisabled` (10_state.md R36). -/
def State.setDecimalDisabled (s : State) (b : Bool) : State := { s with decimalDisabled := b }

/-- The host setting `Debug` (10_state.md R37). -/
def State.setDebugOn (s : State) (b : Bool) : State := { s with debugOn := b }

/-- The host filling a device's buffer directly at bus address `a` (70_reset_and_hazards.md R356). -/
def State.fill (s : State) (a : Word) (v : Byte) : State := s.setDevices (busFill s.devices a v)

/-- The host loading bytes at `a` and the addresses after it. -/
def State.load (s : State) (a : Word) : List Byte → State
  | [] => s
  | b :: bs => State.load (s.fill a b) (a + 1) bs

/-- A tick that starts now starts an instruction: no wait, nothing latched. -/
def State.atBoundary (s : State) : State := { s with waitCycles := 0, pendingIrq := false, pendingNmi := false }

end Sys2Proof.Machine
end

