-- ==== Sys2Proof/Machine/Operands.lean ====
section
/-! DEFINITION. The twelve addressing modes as one resolver (40_step_and_addressing.md R103 to R115), page crossing
(R116), and the frame every instruction tick shares: resolve, run the behaviour, charge the base cycles (R100 steps 6
to 8). The state an instruction starts from has PC past the whole instruction (R102). -/

namespace Sys2Proof.Machine

/-- `page_cross(a, b)` (R116). -/
def pageCross (a b : Word) : Bool := hiByte a != hiByte b

/-- A base address plus an index, with the page-cross cycle of abx, aby and izy (R110, R112, R113). -/
def indexed (base : Word) (index : Byte) (s : State) : Word × State :=
  let ea := base + zext16 index
  (ea, if pageCross base ea then s.addWait 1 else s)

/-- The word at a zero-page pointer, both bytes in page zero (R109, R110). -/
def zpPointer (ptr : Byte) (s : State) : Word × State := s.memRead2 (zext16 ptr) (zext16 (ptr + 1))

/-- `Resolve(mode, argAddr, operand)` (R103): the effective address, and the state after the resolver's bus reads and its
page-cross cycle. -/
def resolve (mode : Mode) (argAddr operand : Word) (s : State) : Word × State :=
  match mode with
  | .none => (0, s)
  | .imm => (argAddr, s)
  | .zp => (operand, s)
  | .zpx => (zext16 (loByte operand + s.x), s)
  | .zpy => (zext16 (loByte operand + s.y), s)
  | .izx => zpPointer (loByte operand + s.x) s
  | .izy =>
    let base := zpPointer (loByte operand) s
    indexed base.1 s.y base.2
  | .abs => (operand, s)
  | .abx => indexed operand s.x s
  | .aby => indexed operand s.y s
  | .ind => s.memRead2 operand ((operand &&& 0xFF00) ||| ((operand + 1) &&& 0x00FF))
  | .rel => (argAddr + 1 + sext16 (loByte operand), s)

/-- `argAddr` (R100 step 5): the address of the first operand byte, from the PC past the instruction. -/
def argAddr (i : Instr) (s : State) : Word := s.pc - BitVec.ofNat 16 i.row.mode.operandBytes

/-- The effective address of an instruction and the state its behaviour runs from (R100 step 6). -/
def addressed (i : Instr) (s : State) : Word × State := resolve i.row.mode (argAddr i s) i.operand s

/-- R100 steps 6 to 8: resolve, run the behaviour on the effective address, add the row's base cycles. -/
def instrTick (i : Instr) (behaviour : Word → State → State) (s : State) : Result :=
  .next ((behaviour (addressed i s).1 (addressed i s).2).addWait i.row.cycles)

/-- The decimal predicate (R123). -/
def State.decimalActive (s : State) : Bool := s.flag .D && !s.decimalDisabled

end Sys2Proof.Machine
end

