-- ==== Sys2Proof/Machine/Arithmetic.lean ====
section
/-! DEFINITION. Add and subtract with carry (42_arithmetic.md R150 to R157): the behaviours, then one meaning per row. The
arithmetic itself is in Flags.lean. -/

namespace Sys2Proof.Machine

/-- ADC of a byte already read (R150): the decimal path when decimal is active, else the binary one. -/
def addByte (m : Byte) (s : State) : State :=
  let o := if s.decimalActive then adcDecimal s.a m (s.flag .C) else adcBinary s.a m (s.flag .C)
  (s.setA o.r).setP (o.flags s.p)

/-- SBC of a byte already read (R155). -/
def subByte (m : Byte) (s : State) : State :=
  let o := if s.decimalActive then sbcDecimal s.a m (s.flag .C) else sbcBinary s.a m (s.flag .C)
  (s.setA o.r).setP (o.flags s.p)

/-- ADC (R150). -/
def adcOp (ea : Word) (s : State) : State :=
  let m := s.memRead ea
  addByte m.1 m.2

/-- SBC (R155, R283). -/
def sbcOp (ea : Word) (s : State) : State :=
  let m := s.memRead ea
  subByte m.1 m.2

/-- ADC izx, `61` (R150). -/
def execAdcIzx (op8 : Byte) (s : State) : Result := instrTick (.adcIzx op8) adcOp s
/-- ADC zp, `65` (R150). -/
def execAdcZp (op8 : Byte) (s : State) : Result := instrTick (.adcZp op8) adcOp s
/-- ADC imm, `69` (R150). -/
def execAdcImm (op8 : Byte) (s : State) : Result := instrTick (.adcImm op8) adcOp s
/-- ADC abs, `6D` (R150). -/
def execAdcAbs (op16 : Word) (s : State) : Result := instrTick (.adcAbs op16) adcOp s
/-- ADC izy, `71` (R150). -/
def execAdcIzy (op8 : Byte) (s : State) : Result := instrTick (.adcIzy op8) adcOp s
/-- ADC zpx, `75` (R150). -/
def execAdcZpx (op8 : Byte) (s : State) : Result := instrTick (.adcZpx op8) adcOp s
/-- ADC aby, `79` (R150). -/
def execAdcAby (op16 : Word) (s : State) : Result := instrTick (.adcAby op16) adcOp s
/-- ADC abx, `7D` (R150). -/
def execAdcAbx (op16 : Word) (s : State) : Result := instrTick (.adcAbx op16) adcOp s
/-- SBC izx, `E1` (R155). -/
def execSbcIzx (op8 : Byte) (s : State) : Result := instrTick (.sbcIzx op8) sbcOp s
/-- SBC zp, `E5` (R155). -/
def execSbcZp (op8 : Byte) (s : State) : Result := instrTick (.sbcZp op8) sbcOp s
/-- SBC imm, `E9` (R155). -/
def execSbcImm (op8 : Byte) (s : State) : Result := instrTick (.sbcImm op8) sbcOp s
/-- SBC imm, `EB` (undocumented, R283). -/
def execSbcImmEB (op8 : Byte) (s : State) : Result := instrTick (.sbcImmEB op8) sbcOp s
/-- SBC abs, `ED` (R155). -/
def execSbcAbs (op16 : Word) (s : State) : Result := instrTick (.sbcAbs op16) sbcOp s
/-- SBC izy, `F1` (R155). -/
def execSbcIzy (op8 : Byte) (s : State) : Result := instrTick (.sbcIzy op8) sbcOp s
/-- SBC zpx, `F5` (R155). -/
def execSbcZpx (op8 : Byte) (s : State) : Result := instrTick (.sbcZpx op8) sbcOp s
/-- SBC aby, `F9` (R155). -/
def execSbcAby (op16 : Word) (s : State) : Result := instrTick (.sbcAby op16) sbcOp s
/-- SBC abx, `FD` (R155). -/
def execSbcAbx (op16 : Word) (s : State) : Result := instrTick (.sbcAbx op16) sbcOp s

end Sys2Proof.Machine
end

