-- ==== Sys2Proof/Machine/ControlFlow.lean ====
section
/-! DEFINITION. Jumps, subroutine call and return, interrupt return and branches (45_control_flow.md R210 to R222): the
behaviours, then one meaning per row. PC is past the whole instruction when a behaviour runs. -/

namespace Sys2Proof.Machine

/-- JMP (R210): `PC <- ea`. -/
def jmpOp (ea : Word) (s : State) : State := s.setPc ea

/-- JSR (R211): push `PC - 1`, high byte first, then `PC <- ea`. -/
def jsrOp (ea : Word) (s : State) : State := (s.push16 (s.pc - 1)).setPc ea

/-- RTS (R212): `PC <- pop16() + 1`. -/
def rtsOp (_ : Word) (s : State) : State :=
  let r := s.pop16
  r.2.setPc (r.1 + 1)

/-- RTI (R213). -/
def rtiOp (_ : Word) (s : State) : State := s.returnFromHandler

/-- A branch (R214): if taken, `PC <- ea`, and one more cycle when the target is on another page than PC. -/
def branchIf (cond : Bool) (ea : Word) (s : State) : State :=
  if cond then (if pageCross s.pc ea then s.addWait 1 else s).setPc ea else s

/-- BPL (R215): `P.N = 0`. -/
def bplOp (ea : Word) (s : State) : State := branchIf (!s.flag .N) ea s

/-- BMI (R216): `P.N = 1`. -/
def bmiOp (ea : Word) (s : State) : State := branchIf (s.flag .N) ea s

/-- BVC (R217): `P.V = 0`. -/
def bvcOp (ea : Word) (s : State) : State := branchIf (!s.flag .V) ea s

/-- BVS (R218): `P.V = 1`. -/
def bvsOp (ea : Word) (s : State) : State := branchIf (s.flag .V) ea s

/-- BCC (R219): `P.C = 0`. -/
def bccOp (ea : Word) (s : State) : State := branchIf (!s.flag .C) ea s

/-- BCS (R220): `P.C = 1`. -/
def bcsOp (ea : Word) (s : State) : State := branchIf (s.flag .C) ea s

/-- BNE (R221): `P.Z = 0`. -/
def bneOp (ea : Word) (s : State) : State := branchIf (!s.flag .Z) ea s

/-- BEQ (R222): `P.Z = 1`. -/
def beqOp (ea : Word) (s : State) : State := branchIf (s.flag .Z) ea s

/-- JMP abs, `4C` (R210). -/
def execJmpAbs (op16 : Word) (s : State) : Result := instrTick (.jmpAbs op16) jmpOp s
/-- JMP ind, `6C` (R210). -/
def execJmpInd (op16 : Word) (s : State) : Result := instrTick (.jmpInd op16) jmpOp s
/-- JSR abs, `20` (R211). -/
def execJsr (op16 : Word) (s : State) : Result := instrTick (.jsr op16) jsrOp s
/-- RTS none, `60` (R212). -/
def execRts (s : State) : Result := instrTick .rts rtsOp s
/-- RTI none, `40` (R213). -/
def execRti (s : State) : Result := instrTick .rti rtiOp s
/-- BPL rel, `10` (R215). -/
def execBpl (op8 : Byte) (s : State) : Result := instrTick (.bpl op8) bplOp s
/-- BMI rel, `30` (R216). -/
def execBmi (op8 : Byte) (s : State) : Result := instrTick (.bmi op8) bmiOp s
/-- BVC rel, `50` (R217). -/
def execBvc (op8 : Byte) (s : State) : Result := instrTick (.bvc op8) bvcOp s
/-- BVS rel, `70` (R218). -/
def execBvs (op8 : Byte) (s : State) : Result := instrTick (.bvs op8) bvsOp s
/-- BCC rel, `90` (R219). -/
def execBcc (op8 : Byte) (s : State) : Result := instrTick (.bcc op8) bccOp s
/-- BCS rel, `B0` (R220). -/
def execBcs (op8 : Byte) (s : State) : Result := instrTick (.bcs op8) bcsOp s
/-- BNE rel, `D0` (R221). -/
def execBne (op8 : Byte) (s : State) : Result := instrTick (.bne op8) bneOp s
/-- BEQ rel, `F0` (R222). -/
def execBeq (op8 : Byte) (s : State) : Result := instrTick (.beq op8) beqOp s

end Sys2Proof.Machine
end

