-- ==== Sys2Proof/Machine/IncDec.lean ====
section
/-! DEFINITION. Increments, decrements and compares (44_incdec_compare.md R190 to R198): the behaviours, then one meaning
per row. -/

namespace Sys2Proof.Machine

/-- INC and DEC (R190, R191): read, write `f` of the byte, and N and Z from the computed byte, or from a read-back where the
parameter says so (92_eei_decisions.md D11). -/
def stepMem (f : Byte → Byte) (ea : Word) (s : State) : State :=
  let m := s.memRead ea
  let w := m.2.memWrite ea (f m.1)
  match s.params.incdecNz with
  | .computed => w.setNZ (f m.1)
  | .readback =>
    let v := w.memRead ea
    v.2.setNZ v.1

/-- INC (R190). -/
def incOp (ea : Word) (s : State) : State := stepMem (· + 1) ea s

/-- DEC (R191). -/
def decOp (ea : Word) (s : State) : State := stepMem (· - 1) ea s

/-- INX (R192). -/
def inxOp (_ : Word) (s : State) : State := (s.setX (s.x + 1)).setNZ (s.x + 1)

/-- INY (R193). -/
def inyOp (_ : Word) (s : State) : State := (s.setY (s.y + 1)).setNZ (s.y + 1)

/-- DEX (R194). -/
def dexOp (_ : Word) (s : State) : State := (s.setX (s.x - 1)).setNZ (s.x - 1)

/-- DEY (R195). -/
def deyOp (_ : Word) (s : State) : State := (s.setY (s.y - 1)).setNZ (s.y - 1)

/-- `compare(reg, MemRead(ea))` (40 R122). -/
def compareAt (reg : Byte) (ea : Word) (s : State) : State :=
  let m := s.memRead ea
  m.2.setP (compareOf reg m.1 s.p)

/-- CMP (R196). -/
def cmpOp (ea : Word) (s : State) : State := compareAt s.a ea s

/-- CPX (R197). -/
def cpxOp (ea : Word) (s : State) : State := compareAt s.x ea s

/-- CPY (R198). -/
def cpyOp (ea : Word) (s : State) : State := compareAt s.y ea s

/-- INC zp, `E6` (R190). -/
def execIncZp (op8 : Byte) (s : State) : Result := instrTick (.incZp op8) incOp s
/-- INC abs, `EE` (R190). -/
def execIncAbs (op16 : Word) (s : State) : Result := instrTick (.incAbs op16) incOp s
/-- INC zpx, `F6` (R190). -/
def execIncZpx (op8 : Byte) (s : State) : Result := instrTick (.incZpx op8) incOp s
/-- INC abx, `FE` (R190). -/
def execIncAbx (op16 : Word) (s : State) : Result := instrTick (.incAbx op16) incOp s
/-- DEC zp, `C6` (R191). -/
def execDecZp (op8 : Byte) (s : State) : Result := instrTick (.decZp op8) decOp s
/-- DEC abs, `CE` (R191). -/
def execDecAbs (op16 : Word) (s : State) : Result := instrTick (.decAbs op16) decOp s
/-- DEC zpx, `D6` (R191). -/
def execDecZpx (op8 : Byte) (s : State) : Result := instrTick (.decZpx op8) decOp s
/-- DEC abx, `DE` (R191). -/
def execDecAbx (op16 : Word) (s : State) : Result := instrTick (.decAbx op16) decOp s
/-- INX none, `E8` (R192). -/
def execInx (s : State) : Result := instrTick .inx inxOp s
/-- INY none, `C8` (R193). -/
def execIny (s : State) : Result := instrTick .iny inyOp s
/-- DEX none, `CA` (R194). -/
def execDex (s : State) : Result := instrTick .dex dexOp s
/-- DEY none, `88` (R195). -/
def execDey (s : State) : Result := instrTick .dey deyOp s
/-- CMP izx, `C1` (R196). -/
def execCmpIzx (op8 : Byte) (s : State) : Result := instrTick (.cmpIzx op8) cmpOp s
/-- CMP zp, `C5` (R196). -/
def execCmpZp (op8 : Byte) (s : State) : Result := instrTick (.cmpZp op8) cmpOp s
/-- CMP imm, `C9` (R196). -/
def execCmpImm (op8 : Byte) (s : State) : Result := instrTick (.cmpImm op8) cmpOp s
/-- CMP abs, `CD` (R196). -/
def execCmpAbs (op16 : Word) (s : State) : Result := instrTick (.cmpAbs op16) cmpOp s
/-- CMP izy, `D1` (R196). -/
def execCmpIzy (op8 : Byte) (s : State) : Result := instrTick (.cmpIzy op8) cmpOp s
/-- CMP zpx, `D5` (R196). -/
def execCmpZpx (op8 : Byte) (s : State) : Result := instrTick (.cmpZpx op8) cmpOp s
/-- CMP aby, `D9` (R196). -/
def execCmpAby (op16 : Word) (s : State) : Result := instrTick (.cmpAby op16) cmpOp s
/-- CMP abx, `DD` (R196). -/
def execCmpAbx (op16 : Word) (s : State) : Result := instrTick (.cmpAbx op16) cmpOp s
/-- CPX imm, `E0` (R197). -/
def execCpxImm (op8 : Byte) (s : State) : Result := instrTick (.cpxImm op8) cpxOp s
/-- CPX zp, `E4` (R197). -/
def execCpxZp (op8 : Byte) (s : State) : Result := instrTick (.cpxZp op8) cpxOp s
/-- CPX abs, `EC` (R197). -/
def execCpxAbs (op16 : Word) (s : State) : Result := instrTick (.cpxAbs op16) cpxOp s
/-- CPY imm, `C0` (R198). -/
def execCpyImm (op8 : Byte) (s : State) : Result := instrTick (.cpyImm op8) cpyOp s
/-- CPY zp, `C4` (R198). -/
def execCpyZp (op8 : Byte) (s : State) : Result := instrTick (.cpyZp op8) cpyOp s
/-- CPY abs, `CC` (R198). -/
def execCpyAbs (op16 : Word) (s : State) : Result := instrTick (.cpyAbs op16) cpyOp s

end Sys2Proof.Machine
end

