-- ==== Sys2Proof/Machine/LoadStore.lean ====
section
/-! DEFINITION. Loads, stores and register transfers (41_load_store_transfer.md R130 to R141): the behaviours, then one
meaning per row. -/

namespace Sys2Proof.Machine

/-- LDA (R130): `A <- MemRead(ea); set_nz(A)`. -/
def ldaOp (ea : Word) (s : State) : State :=
  let m := s.memRead ea
  (m.2.setA m.1).setNZ m.1

/-- LDX (R131): `X <- MemRead(ea); set_nz(X)`. -/
def ldxOp (ea : Word) (s : State) : State :=
  let m := s.memRead ea
  (m.2.setX m.1).setNZ m.1

/-- LDY (R132): `Y <- MemRead(ea); set_nz(Y)`. -/
def ldyOp (ea : Word) (s : State) : State :=
  let m := s.memRead ea
  (m.2.setY m.1).setNZ m.1

/-- STA (R133): `MemWrite(ea, A)`. -/
def staOp (ea : Word) (s : State) : State := s.memWrite ea s.a

/-- STX (R134): `MemWrite(ea, X)`. -/
def stxOp (ea : Word) (s : State) : State := s.memWrite ea s.x

/-- STY (R135): `MemWrite(ea, Y)`. -/
def styOp (ea : Word) (s : State) : State := s.memWrite ea s.y

/-- TAX (R136): `X <- A; set_nz(X)`. -/
def taxOp (_ : Word) (s : State) : State := (s.setX s.a).setNZ s.a

/-- TXA (R137): `A <- X; set_nz(A)`. -/
def txaOp (_ : Word) (s : State) : State := (s.setA s.x).setNZ s.x

/-- TAY (R138): `Y <- A; set_nz(Y)`. -/
def tayOp (_ : Word) (s : State) : State := (s.setY s.a).setNZ s.a

/-- TYA (R139): `A <- Y; set_nz(A)`. -/
def tyaOp (_ : Word) (s : State) : State := (s.setA s.y).setNZ s.y

/-- TSX (R140): `X <- SP; set_nz(X)`. -/
def tsxOp (_ : Word) (s : State) : State := (s.setX s.sp).setNZ s.sp

/-- TXS (R141): `SP <- X`, no flag. -/
def txsOp (_ : Word) (s : State) : State := s.setSp s.x

/-- LDA izx, `A1` (R130). -/
def execLdaIzx (op8 : Byte) (s : State) : Result := instrTick (.ldaIzx op8) ldaOp s
/-- LDA zp, `A5` (R130). -/
def execLdaZp (op8 : Byte) (s : State) : Result := instrTick (.ldaZp op8) ldaOp s
/-- LDA imm, `A9` (R130). -/
def execLdaImm (op8 : Byte) (s : State) : Result := instrTick (.ldaImm op8) ldaOp s
/-- LDA abs, `AD` (R130). -/
def execLdaAbs (op16 : Word) (s : State) : Result := instrTick (.ldaAbs op16) ldaOp s
/-- LDA izy, `B1` (R130). -/
def execLdaIzy (op8 : Byte) (s : State) : Result := instrTick (.ldaIzy op8) ldaOp s
/-- LDA zpx, `B5` (R130). -/
def execLdaZpx (op8 : Byte) (s : State) : Result := instrTick (.ldaZpx op8) ldaOp s
/-- LDA aby, `B9` (R130). -/
def execLdaAby (op16 : Word) (s : State) : Result := instrTick (.ldaAby op16) ldaOp s
/-- LDA abx, `BD` (R130). -/
def execLdaAbx (op16 : Word) (s : State) : Result := instrTick (.ldaAbx op16) ldaOp s
/-- LDX imm, `A2` (R131). -/
def execLdxImm (op8 : Byte) (s : State) : Result := instrTick (.ldxImm op8) ldxOp s
/-- LDX zp, `A6` (R131). -/
def execLdxZp (op8 : Byte) (s : State) : Result := instrTick (.ldxZp op8) ldxOp s
/-- LDX abs, `AE` (R131). -/
def execLdxAbs (op16 : Word) (s : State) : Result := instrTick (.ldxAbs op16) ldxOp s
/-- LDX zpy, `B6` (R131). -/
def execLdxZpy (op8 : Byte) (s : State) : Result := instrTick (.ldxZpy op8) ldxOp s
/-- LDX aby, `BE` (R131). -/
def execLdxAby (op16 : Word) (s : State) : Result := instrTick (.ldxAby op16) ldxOp s
/-- LDY imm, `A0` (R132). -/
def execLdyImm (op8 : Byte) (s : State) : Result := instrTick (.ldyImm op8) ldyOp s
/-- LDY zp, `A4` (R132). -/
def execLdyZp (op8 : Byte) (s : State) : Result := instrTick (.ldyZp op8) ldyOp s
/-- LDY abs, `AC` (R132). -/
def execLdyAbs (op16 : Word) (s : State) : Result := instrTick (.ldyAbs op16) ldyOp s
/-- LDY zpx, `B4` (R132). -/
def execLdyZpx (op8 : Byte) (s : State) : Result := instrTick (.ldyZpx op8) ldyOp s
/-- LDY abx, `BC` (R132). -/
def execLdyAbx (op16 : Word) (s : State) : Result := instrTick (.ldyAbx op16) ldyOp s
/-- STA izx, `81` (R133). -/
def execStaIzx (op8 : Byte) (s : State) : Result := instrTick (.staIzx op8) staOp s
/-- STA zp, `85` (R133). -/
def execStaZp (op8 : Byte) (s : State) : Result := instrTick (.staZp op8) staOp s
/-- STA abs, `8D` (R133). -/
def execStaAbs (op16 : Word) (s : State) : Result := instrTick (.staAbs op16) staOp s
/-- STA izy, `91` (R133). -/
def execStaIzy (op8 : Byte) (s : State) : Result := instrTick (.staIzy op8) staOp s
/-- STA zpx, `95` (R133). -/
def execStaZpx (op8 : Byte) (s : State) : Result := instrTick (.staZpx op8) staOp s
/-- STA aby, `99` (R133). -/
def execStaAby (op16 : Word) (s : State) : Result := instrTick (.staAby op16) staOp s
/-- STA abx, `9D` (R133). -/
def execStaAbx (op16 : Word) (s : State) : Result := instrTick (.staAbx op16) staOp s
/-- STX zp, `86` (R134). -/
def execStxZp (op8 : Byte) (s : State) : Result := instrTick (.stxZp op8) stxOp s
/-- STX abs, `8E` (R134). -/
def execStxAbs (op16 : Word) (s : State) : Result := instrTick (.stxAbs op16) stxOp s
/-- STX zpy, `96` (R134). -/
def execStxZpy (op8 : Byte) (s : State) : Result := instrTick (.stxZpy op8) stxOp s
/-- STY zp, `84` (R135). -/
def execStyZp (op8 : Byte) (s : State) : Result := instrTick (.styZp op8) styOp s
/-- STY abs, `8C` (R135). -/
def execStyAbs (op16 : Word) (s : State) : Result := instrTick (.styAbs op16) styOp s
/-- STY zpx, `94` (R135). -/
def execStyZpx (op8 : Byte) (s : State) : Result := instrTick (.styZpx op8) styOp s
/-- TAX none, `AA` (R136). -/
def execTax (s : State) : Result := instrTick .tax taxOp s
/-- TXA none, `8A` (R137). -/
def execTxa (s : State) : Result := instrTick .txa txaOp s
/-- TAY none, `A8` (R138). -/
def execTay (s : State) : Result := instrTick .tay tayOp s
/-- TYA none, `98` (R139). -/
def execTya (s : State) : Result := instrTick .tya tyaOp s
/-- TSX none, `BA` (R140). -/
def execTsx (s : State) : Result := instrTick .tsx tsxOp s
/-- TXS none, `9A` (R141). -/
def execTxs (s : State) : Result := instrTick .txs txsOp s

end Sys2Proof.Machine
end

