-- ==== Sys2Proof/Machine/Logic.lean ====
section
/-! DEFINITION. Logic, bit test, shifts and rotates (43_logic_shift.md R170 to R182): the behaviours, then one meaning per
row. -/

namespace Sys2Proof.Machine

/-- AND (R170): `A <- A & MemRead(ea); set_nz(A)`. -/
def andOp (ea : Word) (s : State) : State :=
  let m := s.memRead ea
  (m.2.setA (s.a &&& m.1)).setNZ (s.a &&& m.1)

/-- ORA (R171): `A <- A | MemRead(ea); set_nz(A)`. -/
def oraOp (ea : Word) (s : State) : State :=
  let m := s.memRead ea
  (m.2.setA (s.a ||| m.1)).setNZ (s.a ||| m.1)

/-- EOR (R172): `A <- A ^ MemRead(ea); set_nz(A)`. -/
def eorOp (ea : Word) (s : State) : State :=
  let m := s.memRead ea
  (m.2.setA (s.a ^^^ m.1)).setNZ (s.a ^^^ m.1)

/-- BIT (R173): Z from `A & M`, N from bit 7 and V from bit 6 of the memory byte. -/
def bitOp (ea : Word) (s : State) : State :=
  let m := s.memRead ea
  ((m.2.setFlag .Z (s.a &&& m.1 == 0)).setFlag .N (m.1.getLsbD 7)).setFlag .V (m.1.getLsbD 6)

/-- A shift of the accumulator (R174 to R177): carry from the bit shifted out, then N and Z of the result. -/
def shiftA (f : Shift) (s : State) : State :=
  let r := f (s.flag .C) s.a
  ((s.setFlag .C r.2).setA r.1).setNZ r.1

/-- A shift of a memory byte (R178): read, write the shifted byte, read back; N and Z from the byte read back. -/
def shiftMem (f : Shift) (ea : Word) (s : State) : State :=
  let m := s.memRead ea
  let r := f (s.flag .C) m.1
  let v := ((m.2.setFlag .C r.2).memWrite ea r.1).memRead ea
  v.2.setNZ v.1

/-- ASL A (R174). -/
def aslAOp (_ : Word) (s : State) : State := shiftA aslOf s

/-- LSR A (R175). -/
def lsrAOp (_ : Word) (s : State) : State := shiftA lsrOf s

/-- ROL A (R176). -/
def rolAOp (_ : Word) (s : State) : State := shiftA rolOf s

/-- ROR A (R177). -/
def rorAOp (_ : Word) (s : State) : State := shiftA rorOf s

/-- ASL (R179). -/
def aslOp (ea : Word) (s : State) : State := shiftMem aslOf ea s

/-- LSR (R180). -/
def lsrOp (ea : Word) (s : State) : State := shiftMem lsrOf ea s

/-- ROL (R181). -/
def rolOp (ea : Word) (s : State) : State := shiftMem rolOf ea s

/-- ROR (R182). -/
def rorOp (ea : Word) (s : State) : State := shiftMem rorOf ea s

/-- AND izx, `21` (R170). -/
def execAndIzx (op8 : Byte) (s : State) : Result := instrTick (.andIzx op8) andOp s
/-- AND zp, `25` (R170). -/
def execAndZp (op8 : Byte) (s : State) : Result := instrTick (.andZp op8) andOp s
/-- AND imm, `29` (R170). -/
def execAndImm (op8 : Byte) (s : State) : Result := instrTick (.andImm op8) andOp s
/-- AND abs, `2D` (R170). -/
def execAndAbs (op16 : Word) (s : State) : Result := instrTick (.andAbs op16) andOp s
/-- AND izy, `31` (R170). -/
def execAndIzy (op8 : Byte) (s : State) : Result := instrTick (.andIzy op8) andOp s
/-- AND zpx, `35` (R170). -/
def execAndZpx (op8 : Byte) (s : State) : Result := instrTick (.andZpx op8) andOp s
/-- AND aby, `39` (R170). -/
def execAndAby (op16 : Word) (s : State) : Result := instrTick (.andAby op16) andOp s
/-- AND abx, `3D` (R170). -/
def execAndAbx (op16 : Word) (s : State) : Result := instrTick (.andAbx op16) andOp s
/-- ORA izx, `01` (R171). -/
def execOraIzx (op8 : Byte) (s : State) : Result := instrTick (.oraIzx op8) oraOp s
/-- ORA zp, `05` (R171). -/
def execOraZp (op8 : Byte) (s : State) : Result := instrTick (.oraZp op8) oraOp s
/-- ORA imm, `09` (R171). -/
def execOraImm (op8 : Byte) (s : State) : Result := instrTick (.oraImm op8) oraOp s
/-- ORA abs, `0D` (R171). -/
def execOraAbs (op16 : Word) (s : State) : Result := instrTick (.oraAbs op16) oraOp s
/-- ORA izy, `11` (R171). -/
def execOraIzy (op8 : Byte) (s : State) : Result := instrTick (.oraIzy op8) oraOp s
/-- ORA zpx, `15` (R171). -/
def execOraZpx (op8 : Byte) (s : State) : Result := instrTick (.oraZpx op8) oraOp s
/-- ORA aby, `19` (R171). -/
def execOraAby (op16 : Word) (s : State) : Result := instrTick (.oraAby op16) oraOp s
/-- ORA abx, `1D` (R171). -/
def execOraAbx (op16 : Word) (s : State) : Result := instrTick (.oraAbx op16) oraOp s
/-- EOR izx, `41` (R172). -/
def execEorIzx (op8 : Byte) (s : State) : Result := instrTick (.eorIzx op8) eorOp s
/-- EOR zp, `45` (R172). -/
def execEorZp (op8 : Byte) (s : State) : Result := instrTick (.eorZp op8) eorOp s
/-- EOR imm, `49` (R172). -/
def execEorImm (op8 : Byte) (s : State) : Result := instrTick (.eorImm op8) eorOp s
/-- EOR abs, `4D` (R172). -/
def execEorAbs (op16 : Word) (s : State) : Result := instrTick (.eorAbs op16) eorOp s
/-- EOR izy, `51` (R172). -/
def execEorIzy (op8 : Byte) (s : State) : Result := instrTick (.eorIzy op8) eorOp s
/-- EOR zpx, `55` (R172). -/
def execEorZpx (op8 : Byte) (s : State) : Result := instrTick (.eorZpx op8) eorOp s
/-- EOR aby, `59` (R172). -/
def execEorAby (op16 : Word) (s : State) : Result := instrTick (.eorAby op16) eorOp s
/-- EOR abx, `5D` (R172). -/
def execEorAbx (op16 : Word) (s : State) : Result := instrTick (.eorAbx op16) eorOp s
/-- BIT zp, `24` (R173). -/
def execBitZp (op8 : Byte) (s : State) : Result := instrTick (.bitZp op8) bitOp s
/-- BIT abs, `2C` (R173). -/
def execBitAbs (op16 : Word) (s : State) : Result := instrTick (.bitAbs op16) bitOp s
/-- ASL A none, `0A` (R174). -/
def execAslA (s : State) : Result := instrTick .aslA aslAOp s
/-- LSR A none, `4A` (R175). -/
def execLsrA (s : State) : Result := instrTick .lsrA lsrAOp s
/-- ROL A none, `2A` (R176). -/
def execRolA (s : State) : Result := instrTick .rolA rolAOp s
/-- ROR A none, `6A` (R177). -/
def execRorA (s : State) : Result := instrTick .rorA rorAOp s
/-- ASL zp, `06` (R179). -/
def execAslZp (op8 : Byte) (s : State) : Result := instrTick (.aslZp op8) aslOp s
/-- ASL abs, `0E` (R179). -/
def execAslAbs (op16 : Word) (s : State) : Result := instrTick (.aslAbs op16) aslOp s
/-- ASL zpx, `16` (R179). -/
def execAslZpx (op8 : Byte) (s : State) : Result := instrTick (.aslZpx op8) aslOp s
/-- ASL abx, `1E` (R179). -/
def execAslAbx (op16 : Word) (s : State) : Result := instrTick (.aslAbx op16) aslOp s
/-- LSR zp, `46` (R180). -/
def execLsrZp (op8 : Byte) (s : State) : Result := instrTick (.lsrZp op8) lsrOp s
/-- LSR abs, `4E` (R180). -/
def execLsrAbs (op16 : Word) (s : State) : Result := instrTick (.lsrAbs op16) lsrOp s
/-- LSR zpx, `56` (R180). -/
def execLsrZpx (op8 : Byte) (s : State) : Result := instrTick (.lsrZpx op8) lsrOp s
/-- LSR abx, `5E` (R180). -/
def execLsrAbx (op16 : Word) (s : State) : Result := instrTick (.lsrAbx op16) lsrOp s
/-- ROL zp, `26` (R181). -/
def execRolZp (op8 : Byte) (s : State) : Result := instrTick (.rolZp op8) rolOp s
/-- ROL abs, `2E` (R181). -/
def execRolAbs (op16 : Word) (s : State) : Result := instrTick (.rolAbs op16) rolOp s
/-- ROL zpx, `36` (R181). -/
def execRolZpx (op8 : Byte) (s : State) : Result := instrTick (.rolZpx op8) rolOp s
/-- ROL abx, `3E` (R181). -/
def execRolAbx (op16 : Word) (s : State) : Result := instrTick (.rolAbx op16) rolOp s
/-- ROR zp, `66` (R182). -/
def execRorZp (op8 : Byte) (s : State) : Result := instrTick (.rorZp op8) rorOp s
/-- ROR abs, `6E` (R182). -/
def execRorAbs (op16 : Word) (s : State) : Result := instrTick (.rorAbs op16) rorOp s
/-- ROR zpx, `76` (R182). -/
def execRorZpx (op8 : Byte) (s : State) : Result := instrTick (.rorZpx op8) rorOp s
/-- ROR abx, `7E` (R182). -/
def execRorAbx (op16 : Word) (s : State) : Result := instrTick (.rorAbx op16) rorOp s

end Sys2Proof.Machine
end

