-- ==== Sys2Proof/Machine/System.lean ====
section
/-! DEFINITION. BRK, NOP in all its encodings, flag control and stack instructions (46_system_flags_stack.md R230 to R242;
47_undocumented.md R284): the behaviours, then one meaning per row. -/

namespace Sys2Proof.Machine

/-- BRK (R230): the byte after the opcode is skipped unread, and the handler at `$FFFE` is entered with B and U set in the
pushed copy of P. -/
def brkOp (_ : Word) (s : State) : State := s.enterHandler (s.pc + 1) true irqVector

/-- NOP (R231, R284): nothing; the effective address is discarded and not read. -/
def nopOp (_ : Word) (s : State) : State := s

/-- CLC (R232): `P.C <- 0`. -/
def clcOp (_ : Word) (s : State) : State := s.setFlag .C false

/-- SEC (R233): `P.C <- 1`. -/
def secOp (_ : Word) (s : State) : State := s.setFlag .C true

/-- CLI (R234): `P.I <- 0`. -/
def cliOp (_ : Word) (s : State) : State := s.setFlag .I false

/-- SEI (R235): `P.I <- 1`. -/
def seiOp (_ : Word) (s : State) : State := s.setFlag .I true

/-- CLV (R236): `P.V <- 0`. -/
def clvOp (_ : Word) (s : State) : State := s.setFlag .V false

/-- CLD (R237): `P.D <- 0`. -/
def cldOp (_ : Word) (s : State) : State := s.setFlag .D false

/-- SED (R238): `P.D <- 1`. -/
def sedOp (_ : Word) (s : State) : State := s.setFlag .D true

/-- PHA (R239): `push8(A)`. -/
def phaOp (_ : Word) (s : State) : State := s.push8 s.a

/-- PLA (R240): `A <- pop8(); set_nz(A)`. -/
def plaOp (_ : Word) (s : State) : State :=
  let v := s.pop8
  (v.2.setA v.1).setNZ v.1

/-- PHP (R241): push P with B and U set; the register is unchanged. -/
def phpOp (_ : Word) (s : State) : State := s.push8 (pushedStatus true s.p)

/-- PLP (R242): P from the stack with B and U forced to 1. -/
def plpOp (_ : Word) (s : State) : State :=
  let v := s.pop8
  v.2.setP (pulledStatus v.1)

/-- BRK none, `00` (R230). -/
def execBrk (s : State) : Result := instrTick .brk brkOp s
/-- NOP zp, `04` (undocumented, R284). -/
def execNopZp04 (op8 : Byte) (s : State) : Result := instrTick (.nopZp04 op8) nopOp s
/-- NOP abs, `0C` (undocumented, R284). -/
def execNopAbs0C (op16 : Word) (s : State) : Result := instrTick (.nopAbs0C op16) nopOp s
/-- NOP zpx, `14` (undocumented, R284). -/
def execNopZpx14 (op8 : Byte) (s : State) : Result := instrTick (.nopZpx14 op8) nopOp s
/-- NOP none, `1A` (undocumented, R284). -/
def execNop1A (s : State) : Result := instrTick .nop1A nopOp s
/-- NOP abx, `1C` (undocumented, R284). -/
def execNopAbx1C (op16 : Word) (s : State) : Result := instrTick (.nopAbx1C op16) nopOp s
/-- NOP zpx, `34` (undocumented, R284). -/
def execNopZpx34 (op8 : Byte) (s : State) : Result := instrTick (.nopZpx34 op8) nopOp s
/-- NOP none, `3A` (undocumented, R284). -/
def execNop3A (s : State) : Result := instrTick .nop3A nopOp s
/-- NOP abx, `3C` (undocumented, R284). -/
def execNopAbx3C (op16 : Word) (s : State) : Result := instrTick (.nopAbx3C op16) nopOp s
/-- NOP zp, `44` (undocumented, R284). -/
def execNopZp44 (op8 : Byte) (s : State) : Result := instrTick (.nopZp44 op8) nopOp s
/-- NOP zpx, `54` (undocumented, R284). -/
def execNopZpx54 (op8 : Byte) (s : State) : Result := instrTick (.nopZpx54 op8) nopOp s
/-- NOP none, `5A` (undocumented, R284). -/
def execNop5A (s : State) : Result := instrTick .nop5A nopOp s
/-- NOP abx, `5C` (undocumented, R284). -/
def execNopAbx5C (op16 : Word) (s : State) : Result := instrTick (.nopAbx5C op16) nopOp s
/-- NOP zp, `64` (undocumented, R284). -/
def execNopZp64 (op8 : Byte) (s : State) : Result := instrTick (.nopZp64 op8) nopOp s
/-- NOP zpx, `74` (undocumented, R284). -/
def execNopZpx74 (op8 : Byte) (s : State) : Result := instrTick (.nopZpx74 op8) nopOp s
/-- NOP none, `7A` (undocumented, R284). -/
def execNop7A (s : State) : Result := instrTick .nop7A nopOp s
/-- NOP abx, `7C` (undocumented, R284). -/
def execNopAbx7C (op16 : Word) (s : State) : Result := instrTick (.nopAbx7C op16) nopOp s
/-- NOP imm, `80` (undocumented, R284). -/
def execNopImm80 (op8 : Byte) (s : State) : Result := instrTick (.nopImm80 op8) nopOp s
/-- NOP imm, `82` (undocumented, R284). -/
def execNopImm82 (op8 : Byte) (s : State) : Result := instrTick (.nopImm82 op8) nopOp s
/-- NOP imm, `89` (undocumented, R284). -/
def execNopImm89 (op8 : Byte) (s : State) : Result := instrTick (.nopImm89 op8) nopOp s
/-- NOP imm, `C2` (undocumented, R284). -/
def execNopImmC2 (op8 : Byte) (s : State) : Result := instrTick (.nopImmC2 op8) nopOp s
/-- NOP zpx, `D4` (undocumented, R284). -/
def execNopZpxD4 (op8 : Byte) (s : State) : Result := instrTick (.nopZpxD4 op8) nopOp s
/-- NOP none, `DA` (undocumented, R284). -/
def execNopDA (s : State) : Result := instrTick .nopDA nopOp s
/-- NOP abx, `DC` (undocumented, R284). -/
def execNopAbxDC (op16 : Word) (s : State) : Result := instrTick (.nopAbxDC op16) nopOp s
/-- NOP imm, `E2` (undocumented, R284). -/
def execNopImmE2 (op8 : Byte) (s : State) : Result := instrTick (.nopImmE2 op8) nopOp s
/-- NOP none, `EA` (R231). -/
def execNop (s : State) : Result := instrTick .nop nopOp s
/-- NOP zpx, `F4` (undocumented, R284). -/
def execNopZpxF4 (op8 : Byte) (s : State) : Result := instrTick (.nopZpxF4 op8) nopOp s
/-- NOP none, `FA` (undocumented, R284). -/
def execNopFA (s : State) : Result := instrTick .nopFA nopOp s
/-- NOP abx, `FC` (undocumented, R284). -/
def execNopAbxFC (op16 : Word) (s : State) : Result := instrTick (.nopAbxFC op16) nopOp s
/-- CLC none, `18` (R232). -/
def execClc (s : State) : Result := instrTick .clc clcOp s
/-- SEC none, `38` (R233). -/
def execSec (s : State) : Result := instrTick .sec secOp s
/-- CLI none, `58` (R234). -/
def execCli (s : State) : Result := instrTick .cli cliOp s
/-- SEI none, `78` (R235). -/
def execSei (s : State) : Result := instrTick .sei seiOp s
/-- CLV none, `B8` (R236). -/
def execClv (s : State) : Result := instrTick .clv clvOp s
/-- CLD none, `D8` (R237). -/
def execCld (s : State) : Result := instrTick .cld cldOp s
/-- SED none, `F8` (R238). -/
def execSed (s : State) : Result := instrTick .sed sedOp s
/-- PHA none, `48` (R239). -/
def execPha (s : State) : Result := instrTick .pha phaOp s
/-- PLA none, `68` (R240). -/
def execPla (s : State) : Result := instrTick .pla plaOp s
/-- PHP none, `08` (R241). -/
def execPhp (s : State) : Result := instrTick .php phpOp s
/-- PLP none, `28` (R242). -/
def execPlp (s : State) : Result := instrTick .plp plpOp s

end Sys2Proof.Machine
end

