-- ==== Sys2Proof/Machine/Undocumented.lean ====
section
/-! DEFINITION. The undocumented instructions and the unknown-opcode rows (47_undocumented.md R260 to R287). "P then Q"
runs the whole behaviour of P on the effective address, then the whole behaviour of Q on the same address. -/

namespace Sys2Proof.Machine

/-- SLO (R260): ASL then ORA. -/
def sloOp (ea : Word) (s : State) : State := oraOp ea (aslOp ea s)

/-- RLA (R261): ROL then AND. -/
def rlaOp (ea : Word) (s : State) : State := andOp ea (rolOp ea s)

/-- SRE (R262): LSR then EOR. -/
def sreOp (ea : Word) (s : State) : State := eorOp ea (lsrOp ea s)

/-- RRA (R263): ROR then ADC. -/
def rraOp (ea : Word) (s : State) : State := adcOp ea (rorOp ea s)

/-- DCP (R264): DEC then CMP. -/
def dcpOp (ea : Word) (s : State) : State := cmpOp ea (decOp ea s)

/-- ISC (R265): INC then SBC. -/
def iscOp (ea : Word) (s : State) : State := sbcOp ea (incOp ea s)

/-- SAX (R266): `MemWrite(ea, A & X)`, no flag. -/
def saxOp (ea : Word) (s : State) : State := s.memWrite ea (s.a &&& s.x)

/-- LAX (R267): LDA then LDX, two reads of the same address. -/
def laxOp (ea : Word) (s : State) : State := ldxOp ea (ldaOp ea s)

/-- ANC (R268): AND, then `P.C <- P.N`. -/
def ancOp (ea : Word) (s : State) : State :=
  let t := andOp ea s
  t.setFlag .C (t.flag .N)

/-- ALR (R269): AND then LSR A. -/
def alrOp (ea : Word) (s : State) : State := shiftA lsrOf (andOp ea s)

/-- ARR (R270): on `A & M`, the decimal path when decimal is active, else the binary one. -/
def arrOp (ea : Word) (s : State) : State :=
  let m := s.memRead ea
  let t := s.a &&& m.1
  let o := if s.decimalActive then arrDecimal t (s.flag .C) else arrBinary t (s.flag .C)
  (m.2.setA o.r).setP (o.flags s.p)

/-- AXS (R273): `X <- (A & X) - M`, flags as `compare(A & X, M)`. -/
def axsOp (ea : Word) (s : State) : State :=
  let m := s.memRead ea
  let t := s.a &&& s.x
  (m.2.setX (t - m.1)).setP (compareOf t m.1 s.p)

/-- The byte SHY and SHX store (R274, R275): `reg & (high + 1)`, `high` the high byte of the base address. DESIGN CHOICE of the
spec, D15 (notes/assumptions/2.md). -/
def highValue (reg index : Byte) (ea : Word) : Byte := reg &&& (hiByte (ea - zext16 index) + 1)

/-- Where SHY and SHX store it (R274, R275): on a page cross the parameter says what becomes of the address. DESIGN CHOICE of
the spec, D15 (notes/assumptions/2.md). -/
def highAddress (cross : ShxyCross) (reg index : Byte) (ea : Word) : Word :=
  match cross with
  | .replaceHigh =>
    if pageCross (ea - zext16 index) ea then mkWord (highValue reg index ea) (loByte ea) else ea

/-- The store of SHY and SHX. -/
def storeHigh (reg index : Byte) (ea : Word) (s : State) : State :=
  s.memWrite (highAddress s.params.shxyCross reg index ea) (highValue reg index ea)

/-- SHY (R274): the register is Y, the index X. -/
def shyOp (ea : Word) (s : State) : State := storeHigh s.y s.x ea s

/-- SHX (R275): the register is X, the index Y. -/
def shxOp (ea : Word) (s : State) : State := storeHigh s.x s.y ea s

/-- SLO izx, `03` (undocumented, R260). -/
def execSloIzx (op8 : Byte) (s : State) : Result := instrTick (.sloIzx op8) sloOp s
/-- SLO zp, `07` (undocumented, R260). -/
def execSloZp (op8 : Byte) (s : State) : Result := instrTick (.sloZp op8) sloOp s
/-- SLO abs, `0F` (undocumented, R260). -/
def execSloAbs (op16 : Word) (s : State) : Result := instrTick (.sloAbs op16) sloOp s
/-- SLO izy, `13` (undocumented, R260). -/
def execSloIzy (op8 : Byte) (s : State) : Result := instrTick (.sloIzy op8) sloOp s
/-- SLO zpx, `17` (undocumented, R260). -/
def execSloZpx (op8 : Byte) (s : State) : Result := instrTick (.sloZpx op8) sloOp s
/-- SLO aby, `1B` (undocumented, R260). -/
def execSloAby (op16 : Word) (s : State) : Result := instrTick (.sloAby op16) sloOp s
/-- SLO abx, `1F` (undocumented, R260). -/
def execSloAbx (op16 : Word) (s : State) : Result := instrTick (.sloAbx op16) sloOp s
/-- RLA izx, `23` (undocumented, R261). -/
def execRlaIzx (op8 : Byte) (s : State) : Result := instrTick (.rlaIzx op8) rlaOp s
/-- RLA zp, `27` (undocumented, R261). -/
def execRlaZp (op8 : Byte) (s : State) : Result := instrTick (.rlaZp op8) rlaOp s
/-- RLA abs, `2F` (undocumented, R261). -/
def execRlaAbs (op16 : Word) (s : State) : Result := instrTick (.rlaAbs op16) rlaOp s
/-- RLA izy, `33` (undocumented, R261). -/
def execRlaIzy (op8 : Byte) (s : State) : Result := instrTick (.rlaIzy op8) rlaOp s
/-- RLA zpx, `37` (undocumented, R261). -/
def execRlaZpx (op8 : Byte) (s : State) : Result := instrTick (.rlaZpx op8) rlaOp s
/-- RLA aby, `3B` (undocumented, R261). -/
def execRlaAby (op16 : Word) (s : State) : Result := instrTick (.rlaAby op16) rlaOp s
/-- RLA abx, `3F` (undocumented, R261). -/
def execRlaAbx (op16 : Word) (s : State) : Result := instrTick (.rlaAbx op16) rlaOp s
/-- SRE izx, `43` (undocumented, R262). -/
def execSreIzx (op8 : Byte) (s : State) : Result := instrTick (.sreIzx op8) sreOp s
/-- SRE zp, `47` (undocumented, R262). -/
def execSreZp (op8 : Byte) (s : State) : Result := instrTick (.sreZp op8) sreOp s
/-- SRE abs, `4F` (undocumented, R262). -/
def execSreAbs (op16 : Word) (s : State) : Result := instrTick (.sreAbs op16) sreOp s
/-- SRE izy, `53` (undocumented, R262). -/
def execSreIzy (op8 : Byte) (s : State) : Result := instrTick (.sreIzy op8) sreOp s
/-- SRE zpx, `57` (undocumented, R262). -/
def execSreZpx (op8 : Byte) (s : State) : Result := instrTick (.sreZpx op8) sreOp s
/-- SRE aby, `5B` (undocumented, R262). -/
def execSreAby (op16 : Word) (s : State) : Result := instrTick (.sreAby op16) sreOp s
/-- SRE abx, `5F` (undocumented, R262). -/
def execSreAbx (op16 : Word) (s : State) : Result := instrTick (.sreAbx op16) sreOp s
/-- RRA izx, `63` (undocumented, R263). -/
def execRraIzx (op8 : Byte) (s : State) : Result := instrTick (.rraIzx op8) rraOp s
/-- RRA zp, `67` (undocumented, R263). -/
def execRraZp (op8 : Byte) (s : State) : Result := instrTick (.rraZp op8) rraOp s
/-- RRA abs, `6F` (undocumented, R263). -/
def execRraAbs (op16 : Word) (s : State) : Result := instrTick (.rraAbs op16) rraOp s
/-- RRA izy, `73` (undocumented, R263). -/
def execRraIzy (op8 : Byte) (s : State) : Result := instrTick (.rraIzy op8) rraOp s
/-- RRA zpx, `77` (undocumented, R263). -/
def execRraZpx (op8 : Byte) (s : State) : Result := instrTick (.rraZpx op8) rraOp s
/-- RRA aby, `7B` (undocumented, R263). -/
def execRraAby (op16 : Word) (s : State) : Result := instrTick (.rraAby op16) rraOp s
/-- RRA abx, `7F` (undocumented, R263). -/
def execRraAbx (op16 : Word) (s : State) : Result := instrTick (.rraAbx op16) rraOp s
/-- DCP izx, `C3` (undocumented, R264). -/
def execDcpIzx (op8 : Byte) (s : State) : Result := instrTick (.dcpIzx op8) dcpOp s
/-- DCP zp, `C7` (undocumented, R264). -/
def execDcpZp (op8 : Byte) (s : State) : Result := instrTick (.dcpZp op8) dcpOp s
/-- DCP abs, `CF` (undocumented, R264). -/
def execDcpAbs (op16 : Word) (s : State) : Result := instrTick (.dcpAbs op16) dcpOp s
/-- DCP izy, `D3` (undocumented, R264). -/
def execDcpIzy (op8 : Byte) (s : State) : Result := instrTick (.dcpIzy op8) dcpOp s
/-- DCP zpx, `D7` (undocumented, R264). -/
def execDcpZpx (op8 : Byte) (s : State) : Result := instrTick (.dcpZpx op8) dcpOp s
/-- DCP aby, `DB` (undocumented, R264). -/
def execDcpAby (op16 : Word) (s : State) : Result := instrTick (.dcpAby op16) dcpOp s
/-- DCP abx, `DF` (undocumented, R264). -/
def execDcpAbx (op16 : Word) (s : State) : Result := instrTick (.dcpAbx op16) dcpOp s
/-- ISC izx, `E3` (undocumented, R265). -/
def execIscIzx (op8 : Byte) (s : State) : Result := instrTick (.iscIzx op8) iscOp s
/-- ISC zp, `E7` (undocumented, R265). -/
def execIscZp (op8 : Byte) (s : State) : Result := instrTick (.iscZp op8) iscOp s
/-- ISC abs, `EF` (undocumented, R265). -/
def execIscAbs (op16 : Word) (s : State) : Result := instrTick (.iscAbs op16) iscOp s
/-- ISC izy, `F3` (undocumented, R265). -/
def execIscIzy (op8 : Byte) (s : State) : Result := instrTick (.iscIzy op8) iscOp s
/-- ISC zpx, `F7` (undocumented, R265). -/
def execIscZpx (op8 : Byte) (s : State) : Result := instrTick (.iscZpx op8) iscOp s
/-- ISC aby, `FB` (undocumented, R265). -/
def execIscAby (op16 : Word) (s : State) : Result := instrTick (.iscAby op16) iscOp s
/-- ISC abx, `FF` (undocumented, R265). -/
def execIscAbx (op16 : Word) (s : State) : Result := instrTick (.iscAbx op16) iscOp s
/-- SAX izx, `83` (undocumented, R266). -/
def execSaxIzx (op8 : Byte) (s : State) : Result := instrTick (.saxIzx op8) saxOp s
/-- SAX zp, `87` (undocumented, R266). -/
def execSaxZp (op8 : Byte) (s : State) : Result := instrTick (.saxZp op8) saxOp s
/-- SAX abs, `8F` (undocumented, R266). -/
def execSaxAbs (op16 : Word) (s : State) : Result := instrTick (.saxAbs op16) saxOp s
/-- SAX zpy, `97` (undocumented, R266). -/
def execSaxZpy (op8 : Byte) (s : State) : Result := instrTick (.saxZpy op8) saxOp s
/-- LAX izx, `A3` (undocumented, R267). -/
def execLaxIzx (op8 : Byte) (s : State) : Result := instrTick (.laxIzx op8) laxOp s
/-- LAX zp, `A7` (undocumented, R267). -/
def execLaxZp (op8 : Byte) (s : State) : Result := instrTick (.laxZp op8) laxOp s
/-- LAX abs, `AF` (undocumented, R267). -/
def execLaxAbs (op16 : Word) (s : State) : Result := instrTick (.laxAbs op16) laxOp s
/-- LAX izy, `B3` (undocumented, R267). -/
def execLaxIzy (op8 : Byte) (s : State) : Result := instrTick (.laxIzy op8) laxOp s
/-- LAX zpy, `B7` (undocumented, R267). -/
def execLaxZpy (op8 : Byte) (s : State) : Result := instrTick (.laxZpy op8) laxOp s
/-- LAX aby, `BF` (undocumented, R267). -/
def execLaxAby (op16 : Word) (s : State) : Result := instrTick (.laxAby op16) laxOp s
/-- ANC imm, `0B` (undocumented, R268). -/
def execAncImm0B (op8 : Byte) (s : State) : Result := instrTick (.ancImm0B op8) ancOp s
/-- ANC imm, `2B` (undocumented, R268). -/
def execAncImm2B (op8 : Byte) (s : State) : Result := instrTick (.ancImm2B op8) ancOp s
/-- ALR imm, `4B` (undocumented, R269). -/
def execAlrImm (op8 : Byte) (s : State) : Result := instrTick (.alrImm op8) alrOp s
/-- ARR imm, `6B` (undocumented, R270). -/
def execArrImm (op8 : Byte) (s : State) : Result := instrTick (.arrImm op8) arrOp s
/-- AXS imm, `CB` (undocumented, R273). -/
def execAxsImm (op8 : Byte) (s : State) : Result := instrTick (.axsImm op8) axsOp s
/-- SHY abx, `9C` (undocumented, R274). -/
def execShyAbx (op16 : Word) (s : State) : Result := instrTick (.shyAbx op16) shyOp s
/-- SHX aby, `9E` (undocumented, R275). -/
def execShxAby (op16 : Word) (s : State) : Result := instrTick (.shxAby op16) shxOp s

/-- UNK `02` (R287): the fatal core error. -/
def execUnk02 (s : State) : Result := unknownOpcode s
/-- UNK `12` (R287): the fatal core error. -/
def execUnk12 (s : State) : Result := unknownOpcode s
/-- UNK `22` (R287): the fatal core error. -/
def execUnk22 (s : State) : Result := unknownOpcode s
/-- UNK `32` (R287): the fatal core error. -/
def execUnk32 (s : State) : Result := unknownOpcode s
/-- UNK `42` (R287): the fatal core error. -/
def execUnk42 (s : State) : Result := unknownOpcode s
/-- UNK `52` (R287): the fatal core error. -/
def execUnk52 (s : State) : Result := unknownOpcode s
/-- UNK `62` (R287): the fatal core error. -/
def execUnk62 (s : State) : Result := unknownOpcode s
/-- UNK `72` (R287): the fatal core error. -/
def execUnk72 (s : State) : Result := unknownOpcode s
/-- UNK `8B` (R287): the fatal core error. -/
def execUnk8B (s : State) : Result := unknownOpcode s
/-- UNK `92` (R287): the fatal core error. -/
def execUnk92 (s : State) : Result := unknownOpcode s
/-- UNK `93` (R287): the fatal core error. -/
def execUnk93 (s : State) : Result := unknownOpcode s
/-- UNK `9B` (R287): the fatal core error. -/
def execUnk9B (s : State) : Result := unknownOpcode s
/-- UNK `9F` (R287): the fatal core error. -/
def execUnk9F (s : State) : Result := unknownOpcode s
/-- UNK `AB` (R287): the fatal core error. -/
def execUnkAB (s : State) : Result := unknownOpcode s
/-- UNK `B2` (R287): the fatal core error. -/
def execUnkB2 (s : State) : Result := unknownOpcode s
/-- UNK `BB` (R287): the fatal core error. -/
def execUnkBB (s : State) : Result := unknownOpcode s
/-- UNK `D2` (R287): the fatal core error. -/
def execUnkD2 (s : State) : Result := unknownOpcode s
/-- UNK `F2` (R287): the fatal core error. -/
def execUnkF2 (s : State) : Result := unknownOpcode s

end Sys2Proof.Machine
end

