-- ==== Sys2Proof/Machine/Dispatch.lean ====
section
/-! DEFINITION. What an instruction does, one arm per row of the opcode table. The state it starts from has PC past the
whole instruction (40_step_and_addressing.md R102); the step that fetches it is in Tick.lean. -/

namespace Sys2Proof.Machine

def exec (i : Instr) (s : State) : Host.Outcome State Fault Refusal :=
  match i with
  -- Loads, stores and register transfers (41_load_store_transfer.md)
  | .ldaIzx op8 => Sys2Proof.Machine.execLdaIzx op8 s
  | .ldaZp op8 => Sys2Proof.Machine.execLdaZp op8 s
  | .ldaImm op8 => Sys2Proof.Machine.execLdaImm op8 s
  | .ldaAbs op16 => Sys2Proof.Machine.execLdaAbs op16 s
  | .ldaIzy op8 => Sys2Proof.Machine.execLdaIzy op8 s
  | .ldaZpx op8 => Sys2Proof.Machine.execLdaZpx op8 s
  | .ldaAby op16 => Sys2Proof.Machine.execLdaAby op16 s
  | .ldaAbx op16 => Sys2Proof.Machine.execLdaAbx op16 s
  | .ldxImm op8 => Sys2Proof.Machine.execLdxImm op8 s
  | .ldxZp op8 => Sys2Proof.Machine.execLdxZp op8 s
  | .ldxAbs op16 => Sys2Proof.Machine.execLdxAbs op16 s
  | .ldxZpy op8 => Sys2Proof.Machine.execLdxZpy op8 s
  | .ldxAby op16 => Sys2Proof.Machine.execLdxAby op16 s
  | .ldyImm op8 => Sys2Proof.Machine.execLdyImm op8 s
  | .ldyZp op8 => Sys2Proof.Machine.execLdyZp op8 s
  | .ldyAbs op16 => Sys2Proof.Machine.execLdyAbs op16 s
  | .ldyZpx op8 => Sys2Proof.Machine.execLdyZpx op8 s
  | .ldyAbx op16 => Sys2Proof.Machine.execLdyAbx op16 s
  | .staIzx op8 => Sys2Proof.Machine.execStaIzx op8 s
  | .staZp op8 => Sys2Proof.Machine.execStaZp op8 s
  | .staAbs op16 => Sys2Proof.Machine.execStaAbs op16 s
  | .staIzy op8 => Sys2Proof.Machine.execStaIzy op8 s
  | .staZpx op8 => Sys2Proof.Machine.execStaZpx op8 s
  | .staAby op16 => Sys2Proof.Machine.execStaAby op16 s
  | .staAbx op16 => Sys2Proof.Machine.execStaAbx op16 s
  | .stxZp op8 => Sys2Proof.Machine.execStxZp op8 s
  | .stxAbs op16 => Sys2Proof.Machine.execStxAbs op16 s
  | .stxZpy op8 => Sys2Proof.Machine.execStxZpy op8 s
  | .styZp op8 => Sys2Proof.Machine.execStyZp op8 s
  | .styAbs op16 => Sys2Proof.Machine.execStyAbs op16 s
  | .styZpx op8 => Sys2Proof.Machine.execStyZpx op8 s
  | .tax => Sys2Proof.Machine.execTax s
  | .txa => Sys2Proof.Machine.execTxa s
  | .tay => Sys2Proof.Machine.execTay s
  | .tya => Sys2Proof.Machine.execTya s
  | .tsx => Sys2Proof.Machine.execTsx s
  | .txs => Sys2Proof.Machine.execTxs s
  -- Add and subtract with carry (42_arithmetic.md)
  | .adcIzx op8 => Sys2Proof.Machine.execAdcIzx op8 s
  | .adcZp op8 => Sys2Proof.Machine.execAdcZp op8 s
  | .adcImm op8 => Sys2Proof.Machine.execAdcImm op8 s
  | .adcAbs op16 => Sys2Proof.Machine.execAdcAbs op16 s
  | .adcIzy op8 => Sys2Proof.Machine.execAdcIzy op8 s
  | .adcZpx op8 => Sys2Proof.Machine.execAdcZpx op8 s
  | .adcAby op16 => Sys2Proof.Machine.execAdcAby op16 s
  | .adcAbx op16 => Sys2Proof.Machine.execAdcAbx op16 s
  | .sbcIzx op8 => Sys2Proof.Machine.execSbcIzx op8 s
  | .sbcZp op8 => Sys2Proof.Machine.execSbcZp op8 s
  | .sbcImm op8 => Sys2Proof.Machine.execSbcImm op8 s
  | .sbcImmEB op8 => Sys2Proof.Machine.execSbcImmEB op8 s
  | .sbcAbs op16 => Sys2Proof.Machine.execSbcAbs op16 s
  | .sbcIzy op8 => Sys2Proof.Machine.execSbcIzy op8 s
  | .sbcZpx op8 => Sys2Proof.Machine.execSbcZpx op8 s
  | .sbcAby op16 => Sys2Proof.Machine.execSbcAby op16 s
  | .sbcAbx op16 => Sys2Proof.Machine.execSbcAbx op16 s
  -- Logic, bit test, shifts and rotates (43_logic_shift.md)
  | .andIzx op8 => Sys2Proof.Machine.execAndIzx op8 s
  | .andZp op8 => Sys2Proof.Machine.execAndZp op8 s
  | .andImm op8 => Sys2Proof.Machine.execAndImm op8 s
  | .andAbs op16 => Sys2Proof.Machine.execAndAbs op16 s
  | .andIzy op8 => Sys2Proof.Machine.execAndIzy op8 s
  | .andZpx op8 => Sys2Proof.Machine.execAndZpx op8 s
  | .andAby op16 => Sys2Proof.Machine.execAndAby op16 s
  | .andAbx op16 => Sys2Proof.Machine.execAndAbx op16 s
  | .oraIzx op8 => Sys2Proof.Machine.execOraIzx op8 s
  | .oraZp op8 => Sys2Proof.Machine.execOraZp op8 s
  | .oraImm op8 => Sys2Proof.Machine.execOraImm op8 s
  | .oraAbs op16 => Sys2Proof.Machine.execOraAbs op16 s
  | .oraIzy op8 => Sys2Proof.Machine.execOraIzy op8 s
  | .oraZpx op8 => Sys2Proof.Machine.execOraZpx op8 s
  | .oraAby op16 => Sys2Proof.Machine.execOraAby op16 s
  | .oraAbx op16 => Sys2Proof.Machine.execOraAbx op16 s
  | .eorIzx op8 => Sys2Proof.Machine.execEorIzx op8 s
  | .eorZp op8 => Sys2Proof.Machine.execEorZp op8 s
  | .eorImm op8 => Sys2Proof.Machine.execEorImm op8 s
  | .eorAbs op16 => Sys2Proof.Machine.execEorAbs op16 s
  | .eorIzy op8 => Sys2Proof.Machine.execEorIzy op8 s
  | .eorZpx op8 => Sys2Proof.Machine.execEorZpx op8 s
  | .eorAby op16 => Sys2Proof.Machine.execEorAby op16 s
  | .eorAbx op16 => Sys2Proof.Machine.execEorAbx op16 s
  | .bitZp op8 => Sys2Proof.Machine.execBitZp op8 s
  | .bitAbs op16 => Sys2Proof.Machine.execBitAbs op16 s
  | .aslA => Sys2Proof.Machine.execAslA s
  | .lsrA => Sys2Proof.Machine.execLsrA s
  | .rolA => Sys2Proof.Machine.execRolA s
  | .rorA => Sys2Proof.Machine.execRorA s
  | .aslZp op8 => Sys2Proof.Machine.execAslZp op8 s
  | .aslAbs op16 => Sys2Proof.Machine.execAslAbs op16 s
  | .aslZpx op8 => Sys2Proof.Machine.execAslZpx op8 s
  | .aslAbx op16 => Sys2Proof.Machine.execAslAbx op16 s
  | .lsrZp op8 => Sys2Proof.Machine.execLsrZp op8 s
  | .lsrAbs op16 => Sys2Proof.Machine.execLsrAbs op16 s
  | .lsrZpx op8 => Sys2Proof.Machine.execLsrZpx op8 s
  | .lsrAbx op16 => Sys2Proof.Machine.execLsrAbx op16 s
  | .rolZp op8 => Sys2Proof.Machine.execRolZp op8 s
  | .rolAbs op16 => Sys2Proof.Machine.execRolAbs op16 s
  | .rolZpx op8 => Sys2Proof.Machine.execRolZpx op8 s
  | .rolAbx op16 => Sys2Proof.Machine.execRolAbx op16 s
  | .rorZp op8 => Sys2Proof.Machine.execRorZp op8 s
  | .rorAbs op16 => Sys2Proof.Machine.execRorAbs op16 s
  | .rorZpx op8 => Sys2Proof.Machine.execRorZpx op8 s
  | .rorAbx op16 => Sys2Proof.Machine.execRorAbx op16 s
  -- Increments, decrements and compares (44_incdec_compare.md)
  | .incZp op8 => Sys2Proof.Machine.execIncZp op8 s
  | .incAbs op16 => Sys2Proof.Machine.execIncAbs op16 s
  | .incZpx op8 => Sys2Proof.Machine.execIncZpx op8 s
  | .incAbx op16 => Sys2Proof.Machine.execIncAbx op16 s
  | .decZp op8 => Sys2Proof.Machine.execDecZp op8 s
  | .decAbs op16 => Sys2Proof.Machine.execDecAbs op16 s
  | .decZpx op8 => Sys2Proof.Machine.execDecZpx op8 s
  | .decAbx op16 => Sys2Proof.Machine.execDecAbx op16 s
  | .inx => Sys2Proof.Machine.execInx s
  | .iny => Sys2Proof.Machine.execIny s
  | .dex => Sys2Proof.Machine.execDex s
  | .dey => Sys2Proof.Machine.execDey s
  | .cmpIzx op8 => Sys2Proof.Machine.execCmpIzx op8 s
  | .cmpZp op8 => Sys2Proof.Machine.execCmpZp op8 s
  | .cmpImm op8 => Sys2Proof.Machine.execCmpImm op8 s
  | .cmpAbs op16 => Sys2Proof.Machine.execCmpAbs op16 s
  | .cmpIzy op8 => Sys2Proof.Machine.execCmpIzy op8 s
  | .cmpZpx op8 => Sys2Proof.Machine.execCmpZpx op8 s
  | .cmpAby op16 => Sys2Proof.Machine.execCmpAby op16 s
  | .cmpAbx op16 => Sys2Proof.Machine.execCmpAbx op16 s
  | .cpxImm op8 => Sys2Proof.Machine.execCpxImm op8 s
  | .cpxZp op8 => Sys2Proof.Machine.execCpxZp op8 s
  | .cpxAbs op16 => Sys2Proof.Machine.execCpxAbs op16 s
  | .cpyImm op8 => Sys2Proof.Machine.execCpyImm op8 s
  | .cpyZp op8 => Sys2Proof.Machine.execCpyZp op8 s
  | .cpyAbs op16 => Sys2Proof.Machine.execCpyAbs op16 s
  -- Jumps, calls, returns, branches (45_control_flow.md)
  | .jmpAbs op16 => Sys2Proof.Machine.execJmpAbs op16 s
  | .jmpInd op16 => Sys2Proof.Machine.execJmpInd op16 s
  | .jsr op16 => Sys2Proof.Machine.execJsr op16 s
  | .rts => Sys2Proof.Machine.execRts s
  | .rti => Sys2Proof.Machine.execRti s
  | .bpl op8 => Sys2Proof.Machine.execBpl op8 s
  | .bmi op8 => Sys2Proof.Machine.execBmi op8 s
  | .bvc op8 => Sys2Proof.Machine.execBvc op8 s
  | .bvs op8 => Sys2Proof.Machine.execBvs op8 s
  | .bcc op8 => Sys2Proof.Machine.execBcc op8 s
  | .bcs op8 => Sys2Proof.Machine.execBcs op8 s
  | .bne op8 => Sys2Proof.Machine.execBne op8 s
  | .beq op8 => Sys2Proof.Machine.execBeq op8 s
  -- BRK, NOP, flag control and stack (46_system_flags_stack.md)
  | .brk => Sys2Proof.Machine.execBrk s
  | .nopZp04 op8 => Sys2Proof.Machine.execNopZp04 op8 s
  | .nopAbs0C op16 => Sys2Proof.Machine.execNopAbs0C op16 s
  | .nopZpx14 op8 => Sys2Proof.Machine.execNopZpx14 op8 s
  | .nop1A => Sys2Proof.Machine.execNop1A s
  | .nopAbx1C op16 => Sys2Proof.Machine.execNopAbx1C op16 s
  | .nopZpx34 op8 => Sys2Proof.Machine.execNopZpx34 op8 s
  | .nop3A => Sys2Proof.Machine.execNop3A s
  | .nopAbx3C op16 => Sys2Proof.Machine.execNopAbx3C op16 s
  | .nopZp44 op8 => Sys2Proof.Machine.execNopZp44 op8 s
  | .nopZpx54 op8 => Sys2Proof.Machine.execNopZpx54 op8 s
  | .nop5A => Sys2Proof.Machine.execNop5A s
  | .nopAbx5C op16 => Sys2Proof.Machine.execNopAbx5C op16 s
  | .nopZp64 op8 => Sys2Proof.Machine.execNopZp64 op8 s
  | .nopZpx74 op8 => Sys2Proof.Machine.execNopZpx74 op8 s
  | .nop7A => Sys2Proof.Machine.execNop7A s
  | .nopAbx7C op16 => Sys2Proof.Machine.execNopAbx7C op16 s
  | .nopImm80 op8 => Sys2Proof.Machine.execNopImm80 op8 s
  | .nopImm82 op8 => Sys2Proof.Machine.execNopImm82 op8 s
  | .nopImm89 op8 => Sys2Proof.Machine.execNopImm89 op8 s
  | .nopImmC2 op8 => Sys2Proof.Machine.execNopImmC2 op8 s
  | .nopZpxD4 op8 => Sys2Proof.Machine.execNopZpxD4 op8 s
  | .nopDA => Sys2Proof.Machine.execNopDA s
  | .nopAbxDC op16 => Sys2Proof.Machine.execNopAbxDC op16 s
  | .nopImmE2 op8 => Sys2Proof.Machine.execNopImmE2 op8 s
  | .nop => Sys2Proof.Machine.execNop s
  | .nopZpxF4 op8 => Sys2Proof.Machine.execNopZpxF4 op8 s
  | .nopFA => Sys2Proof.Machine.execNopFA s
  | .nopAbxFC op16 => Sys2Proof.Machine.execNopAbxFC op16 s
  | .clc => Sys2Proof.Machine.execClc s
  | .sec => Sys2Proof.Machine.execSec s
  | .cli => Sys2Proof.Machine.execCli s
  | .sei => Sys2Proof.Machine.execSei s
  | .clv => Sys2Proof.Machine.execClv s
  | .cld => Sys2Proof.Machine.execCld s
  | .sed => Sys2Proof.Machine.execSed s
  | .pha => Sys2Proof.Machine.execPha s
  | .pla => Sys2Proof.Machine.execPla s
  | .php => Sys2Proof.Machine.execPhp s
  | .plp => Sys2Proof.Machine.execPlp s
  -- Undocumented instructions (47_undocumented.md)
  | .sloIzx op8 => Sys2Proof.Machine.execSloIzx op8 s
  | .sloZp op8 => Sys2Proof.Machine.execSloZp op8 s
  | .sloAbs op16 => Sys2Proof.Machine.execSloAbs op16 s
  | .sloIzy op8 => Sys2Proof.Machine.execSloIzy op8 s
  | .sloZpx op8 => Sys2Proof.Machine.execSloZpx op8 s
  | .sloAby op16 => Sys2Proof.Machine.execSloAby op16 s
  | .sloAbx op16 => Sys2Proof.Machine.execSloAbx op16 s
  | .rlaIzx op8 => Sys2Proof.Machine.execRlaIzx op8 s
  | .rlaZp op8 => Sys2Proof.Machine.execRlaZp op8 s
  | .rlaAbs op16 => Sys2Proof.Machine.execRlaAbs op16 s
  | .rlaIzy op8 => Sys2Proof.Machine.execRlaIzy op8 s
  | .rlaZpx op8 => Sys2Proof.Machine.execRlaZpx op8 s
  | .rlaAby op16 => Sys2Proof.Machine.execRlaAby op16 s
  | .rlaAbx op16 => Sys2Proof.Machine.execRlaAbx op16 s
  | .sreIzx op8 => Sys2Proof.Machine.execSreIzx op8 s
  | .sreZp op8 => Sys2Proof.Machine.execSreZp op8 s
  | .sreAbs op16 => Sys2Proof.Machine.execSreAbs op16 s
  | .sreIzy op8 => Sys2Proof.Machine.execSreIzy op8 s
  | .sreZpx op8 => Sys2Proof.Machine.execSreZpx op8 s
  | .sreAby op16 => Sys2Proof.Machine.execSreAby op16 s
  | .sreAbx op16 => Sys2Proof.Machine.execSreAbx op16 s
  | .rraIzx op8 => Sys2Proof.Machine.execRraIzx op8 s
  | .rraZp op8 => Sys2Proof.Machine.execRraZp op8 s
  | .rraAbs op16 => Sys2Proof.Machine.execRraAbs op16 s
  | .rraIzy op8 => Sys2Proof.Machine.execRraIzy op8 s
  | .rraZpx op8 => Sys2Proof.Machine.execRraZpx op8 s
  | .rraAby op16 => Sys2Proof.Machine.execRraAby op16 s
  | .rraAbx op16 => Sys2Proof.Machine.execRraAbx op16 s
  | .dcpIzx op8 => Sys2Proof.Machine.execDcpIzx op8 s
  | .dcpZp op8 => Sys2Proof.Machine.execDcpZp op8 s
  | .dcpAbs op16 => Sys2Proof.Machine.execDcpAbs op16 s
  | .dcpIzy op8 => Sys2Proof.Machine.execDcpIzy op8 s
  | .dcpZpx op8 => Sys2Proof.Machine.execDcpZpx op8 s
  | .dcpAby op16 => Sys2Proof.Machine.execDcpAby op16 s
  | .dcpAbx op16 => Sys2Proof.Machine.execDcpAbx op16 s
  | .iscIzx op8 => Sys2Proof.Machine.execIscIzx op8 s
  | .iscZp op8 => Sys2Proof.Machine.execIscZp op8 s
  | .iscAbs op16 => Sys2Proof.Machine.execIscAbs op16 s
  | .iscIzy op8 => Sys2Proof.Machine.execIscIzy op8 s
  | .iscZpx op8 => Sys2Proof.Machine.execIscZpx op8 s
  | .iscAby op16 => Sys2Proof.Machine.execIscAby op16 s
  | .iscAbx op16 => Sys2Proof.Machine.execIscAbx op16 s
  | .saxIzx op8 => Sys2Proof.Machine.execSaxIzx op8 s
  | .saxZp op8 => Sys2Proof.Machine.execSaxZp op8 s
  | .saxAbs op16 => Sys2Proof.Machine.execSaxAbs op16 s
  | .saxZpy op8 => Sys2Proof.Machine.execSaxZpy op8 s
  | .laxIzx op8 => Sys2Proof.Machine.execLaxIzx op8 s
  | .laxZp op8 => Sys2Proof.Machine.execLaxZp op8 s
  | .laxAbs op16 => Sys2Proof.Machine.execLaxAbs op16 s
  | .laxIzy op8 => Sys2Proof.Machine.execLaxIzy op8 s
  | .laxZpy op8 => Sys2Proof.Machine.execLaxZpy op8 s
  | .laxAby op16 => Sys2Proof.Machine.execLaxAby op16 s
  | .ancImm0B op8 => Sys2Proof.Machine.execAncImm0B op8 s
  | .ancImm2B op8 => Sys2Proof.Machine.execAncImm2B op8 s
  | .alrImm op8 => Sys2Proof.Machine.execAlrImm op8 s
  | .arrImm op8 => Sys2Proof.Machine.execArrImm op8 s
  | .axsImm op8 => Sys2Proof.Machine.execAxsImm op8 s
  | .shyAbx op16 => Sys2Proof.Machine.execShyAbx op16 s
  | .shxAby op16 => Sys2Proof.Machine.execShxAby op16 s
  -- The eighteen opcode bytes with no behaviour (47_undocumented.md R287)
  | .unk02 => Sys2Proof.Machine.execUnk02 s
  | .unk12 => Sys2Proof.Machine.execUnk12 s
  | .unk22 => Sys2Proof.Machine.execUnk22 s
  | .unk32 => Sys2Proof.Machine.execUnk32 s
  | .unk42 => Sys2Proof.Machine.execUnk42 s
  | .unk52 => Sys2Proof.Machine.execUnk52 s
  | .unk62 => Sys2Proof.Machine.execUnk62 s
  | .unk72 => Sys2Proof.Machine.execUnk72 s
  | .unk8B => Sys2Proof.Machine.execUnk8B s
  | .unk92 => Sys2Proof.Machine.execUnk92 s
  | .unk93 => Sys2Proof.Machine.execUnk93 s
  | .unk9B => Sys2Proof.Machine.execUnk9B s
  | .unk9F => Sys2Proof.Machine.execUnk9F s
  | .unkAB => Sys2Proof.Machine.execUnkAB s
  | .unkB2 => Sys2Proof.Machine.execUnkB2 s
  | .unkBB => Sys2Proof.Machine.execUnkBB s
  | .unkD2 => Sys2Proof.Machine.execUnkD2 s
  | .unkF2 => Sys2Proof.Machine.execUnkF2 s

end Sys2Proof.Machine
end

