-- ==== Sys2Proof/Machine/Observers.lean ====
section
/-! DEFINITION. The host's observers (10_state.md R38): waiting, tick_count, the disassembler (30_encoding.md R91, R92),
the status string (R93), and the trace line they make up (60_exceptions.md R331). -/

namespace Sys2Proof.Machine

/-- `waiting()`: true iff `waitCycles > 0` (10_state.md R34). -/
def State.waiting (s : State) : Bool := decide (s.waitCycles > 0)

/-- `tick_count()` (20_memory.md R61). -/
def State.tickCountOf (s : State) : Nat := s.tickCount

/-- An upper-case hexadecimal digit (92_eei_decisions.md D34). -/
def hexDigit (n : Nat) : Char :=
  match n with
  | 0 => '0' | 1 => '1' | 2 => '2' | 3 => '3' | 4 => '4' | 5 => '5' | 6 => '6' | 7 => '7'
  | 8 => '8' | 9 => '9' | 10 => 'A' | 11 => 'B' | 12 => 'C' | 13 => 'D' | 14 => 'E' | _ => 'F'

/-- A byte as two digits. -/
def hex2 (b : Byte) : List Char := [hexDigit (b.toNat / 16), hexDigit (b.toNat % 16)]

/-- A word as four digits. -/
def hex4 (w : Word) : List Char := hex2 (hiByte w) ++ hex2 (loByte w)

/-- The operand text of a mode (30_encoding.md R91); a branch shows its target, from the address of the opcode. -/
def operandText (mode : Mode) (addr operand : Word) : List Char :=
  let b := hex2 (loByte operand)
  let w := hex4 operand
  match mode with
  | .none => []
  | .imm => [' ', '#', '$'] ++ b
  | .zp => [' ', '$'] ++ b
  | .zpx => [' ', '$'] ++ b ++ [',', 'X']
  | .zpy => [' ', '$'] ++ b ++ [',', 'Y']
  | .izx => [' ', '(', '$'] ++ b ++ [',', 'X', ')']
  | .izy => [' ', '(', '$'] ++ b ++ [')', ',', 'Y']
  | .abs => [' ', '$'] ++ w
  | .abx => [' ', '$'] ++ w ++ [',', 'X']
  | .aby => [' ', '$'] ++ w ++ [',', 'Y']
  | .ind => [' ', '(', '$'] ++ w ++ [')']
  | .rel => [' ', '$'] ++ hex4 (addr + 2 + sext16 (loByte operand))

/-- The text of an instruction at an address (30_encoding.md R91); a UNK byte has the parameter's text (D33). -/
def instrText (unkText : String) (addr : Word) (i : Instr) : List Char :=
  if i.row.mnemonic = "UNK" then unkText.toList
  else i.row.mnemonic.toList ++ operandText i.row.mode addr i.operand

/-- The reads of `disassemble(addr)` (30_encoding.md R92): the instruction found there, and the state after the bus
reads, with PC as it was. -/
def State.disassembled (s : State) (addr : Word) : Instr × State :=
  let f := (s.setPc addr).fetch
  (f.1, f.2.setPc s.pc)

/-- `disassemble(addr)` (30_encoding.md R92): the text, the length in bytes, and the state after the bus reads. -/
def State.disassemble (s : State) (addr : Word) : List Char × Nat × State :=
  let d := s.disassembled addr
  (instrText s.params.unkText addr d.1, 1 + d.1.row.mode.operandBytes, d.2)

/-- One flag letter of the status string: upper case iff the flag is set (30_encoding.md R93). -/
def flagChar (p : Byte) (f : Flag) (upper lower : Char) : Char := if getFlag f p then upper else lower

/-- The status string of some register values (30_encoding.md R93). -/
def statusText (pc : Word) (a x y sp p : Byte) : List Char :=
  "PC:".toList ++ hex4 pc ++ " A:".toList ++ hex2 a ++ " X:".toList ++ hex2 x ++ " Y:".toList ++ hex2 y ++
    " SP:".toList ++ hex2 sp ++
    [' ', flagChar p .N 'N' 'n', flagChar p .V 'V' 'v', '-', flagChar p .B 'B' 'b', flagChar p .D 'D' 'd',
      flagChar p .I 'I' 'i', flagChar p .Z 'Z' 'z', flagChar p .C 'C' 'c']

/-- `status_string()` (30_encoding.md R93). -/
def State.statusString (s : State) : List Char := statusText s.pc s.a s.x s.y s.sp s.p

/-- A trace line as text (60_exceptions.md R331): the address of the opcode, the disassembled instruction, the status
string after execution, with single spaces (92_eei_decisions.md D33). -/
def TraceLine.text (unkText : String) (l : TraceLine) : List Char :=
  hex4 l.opAddr ++ [' '] ++ instrText unkText l.opAddr l.instr ++ [' '] ++
    statusText l.pc l.a l.x l.y l.sp l.p

/-- The trace line after an instruction tick (60_exceptions.md R331): with `Debug` clear, nothing; else a line for the
instruction disassembled at the opcode's address, whose bus reads the devices see if `Config.traceReadsBus` says so
(notes/assumptions/7.md). -/
def State.emitTrace (s : State) (opAddr : Word) : State :=
  if s.debugOn then
    let d := s.disassembled opAddr
    let t := if Config.traceReadsBus then d.2 else s
    { t with trace := s.trace ++
        [{ opAddr := opAddr, instr := d.1, a := s.a, x := s.x, y := s.y, sp := s.sp, p := s.p, pc := s.pc }] }
  else s

end Sys2Proof.Machine
end

