-- ==== Sys2Proof/Machine/Tick.lean ====
section
/-! DEFINITION. The tick (40_step_and_addressing.md R100; 20_memory.md R60): the instruction tick, the CPU's tick, a
subscriber's turn, and the fan-out of `BUS_TICK` over the ticker list. -/

namespace Sys2Proof.Machine

/-- The end of an instruction tick: the trace line of the opcode's address if the instruction completed
(60_exceptions.md R331); an error is passed on. -/
def traced (opAddr : Word) : Result → Result
  | .next t => .next (t.emitTrace opAddr)
  | .fault r => .fault r
  | .refused r => .refused r

/-- An instruction tick (R100 steps 3 to 8): fetch at PC, execute, and the trace line. -/
def instructionTick (s : State) : Result := traced s.pc (exec s.fetch.1 s.fetch.2)

/-- `CPU_TICK` (R100): a wait tick, an interrupt-service tick with NMI before IRQ, or an instruction tick. -/
def cpuTick (s : State) : Result :=
  if s.waitCycles > 0 then .next { s with waitCycles := s.waitCycles - 1 }
  else if s.pendingNmi then .next s.serviceNmi
  else if s.pendingIrq then .next s.serviceIrq
  else instructionTick s

/-- One action of a subscriber (00_scope.md R14). -/
def State.busAction (s : State) : BusAction → State
  | .irqReq => s.irqReq
  | .nmiReq => s.nmiReq
  | .busRead a => (s.memRead a).2
  | .busWrite a v => s.memWrite a v
  | .ownState n st => s.setDevices (busAdopt s.devices n st)

/-- A subscriber's turn (20_memory.md R60): what it does, then whether it fails, both free (notes/assumptions/4.md). -/
def subscriberTurn (id : Nat) (s : State) : Result :=
  let t := (Config.subscriberActs id s.tickCount s.devices).foldl State.busAction s
  if Config.subscriberFails id s.tickCount s.devices then .fault (.tickerError id t) else .next t

/-- `t.tick()` of one ticker. -/
def tickerTurn : Ticker → State → Result
  | .cpu, s => cpuTick s
  | .subscriber id, s => subscriberTurn id s

/-- The fan-out (20_memory.md R60): each ticker in order; an error ends it and the later tickers are not invoked. -/
def fanOut : List Ticker → State → Result
  | [], s => .next s
  | t :: ts, s =>
    match tickerTurn t s with
    | .next s' => fanOut ts s'
    | .fault f => .fault f
    | .refused r => .refused r

/-- `BUS_TICK` (20_memory.md R60): the counter first, then the fan-out. -/
def busTick (s : State) : Result := fanOut s.tickers { s with tickCount := s.tickCount + 1 }

/-- The state with the instruction whose bits are the low `nbits` of `w` loaded at PC, at an instruction boundary. -/
def State.loadTableWord (s : State) (nbits w : Nat) : State := (s.load s.pc (tableBytes nbits w)).atBoundary

end Sys2Proof.Machine
end

