-- ==== Sys2Proof/Machine/Step.lean ====
section
/-! DEFINITION. One step of the machine: one `BUS_TICK` (20_memory.md R60). -/

namespace Sys2Proof.Machine

/-- One tick of the bus, the unit of time of the machine (00_scope.md R16). -/
def step : State → Host.Outcome State Fault Refusal := busTick

/-- `s` with the instruction whose bits, numbered as spec/opcode_table.json numbers them, are the low `nbits` of `w` stored
where `step` fetches its next instruction, and at an instruction boundary, so that the next step runs it
(notes/assumptions/8.md). -/
def State.withFetchWord (s : State) (nbits w : Nat) : State := s.loadTableWord nbits w

end Sys2Proof.Machine
end

