-- ==== Sys2Proof/Safety.lean ====
section
/-! DEFINITION. What claims speak of: the storage cell an address decodes to, instruction boundaries, the ends of a run
(70_reset_and_hazards.md R355), the invariant of a well-formed machine, and the part of a machine that no tick changes. -/

namespace Sys2Proof

/-- The byte of a device's buffer an offset selects (20_memory.md R56); a foreign device counts as one cell. -/
def Store.slot : Store → Nat → Nat
  | .ram size _, off => off % size
  | .rom size _, off => off % size
  | .foreign _ _, _ => 0

/-- The storage cell an address decodes to: the position of the answering device and the byte of its buffer; none where
the address is unmapped. Two addresses with one cell are mirrors of each other. -/
def cellOf : List Device → Word → Option (Nat × Nat)
  | [], _ => none
  | d :: ds, a =>
    if d.covers a then some (0, d.store.slot (d.offset a)) else (cellOf ds a).map fun c => (c.1 + 1, c.2)

/-- What answers at `a` is a RAM, a ROM or nothing, so a read there is fixed by the bytes stored. -/
def settled : List Device → Word → Bool
  | [], _ => true
  | d :: ds, a => if d.covers a then d.plain else settled ds a

/-- A RAM. -/
def Store.isRam : Store → Bool
  | .ram _ _ => true
  | .rom _ _ => false
  | .foreign _ _ => false

/-- What answers at `a` is a RAM, so a byte written there is read back. -/
def backed : List Device → Word → Bool
  | [], _ => false
  | d :: ds, a => if d.covers a then d.store.isRam else backed ds a

end Sys2Proof

namespace Sys2Proof.Machine

/-- A tick that starts now is an instruction boundary: `waiting()` is false (00_scope.md R16). -/
def State.boundary (s : State) : Prop := s.waitCycles = 0

/-- A tick that starts now starts an instruction: a boundary with no latch set (40 R100 steps 1 to 3). -/
def State.readyToFetch (s : State) : Prop := s.waitCycles = 0 ∧ s.pendingNmi = false ∧ s.pendingIrq = false

/-- The CPU is the only tick subscriber: the list `[CPU]` of 92_eei_decisions.md D31. -/
def State.cpuAlone (s : State) : Prop := s.tickers = [.cpu]

/-- `b` is outside the byte stored at `a`: nothing is mapped at `b`, or `b` is no mirror of `a`. -/
def State.apart (s : State) (a b : Word) : Prop := cellOf s.devices b = none ∨ cellOf s.devices a ≠ cellOf s.devices b

/-- A run to the target `T` ends here (R355 item 1, D23). -/
def State.reached (s : State) (T : Word) : Prop := s.boundary ∧ s.pc = T

/-- The state a tick leaves, whether it returned `Ok` or an error (60_exceptions.md R320, R321); none for a refusal. -/
def stateLeft : Result → Option State
  | .next t => some t
  | .fault (.unknownOpcode _ t) => some t
  | .fault (.tickerError _ t) => some t
  | .refused _ => none

/-- A trap between two boundaries (R355 item 2): PC is the same at both. -/
def trapped (s t : State) : Prop := s.boundary ∧ t.boundary ∧ s.pc = t.pc

/-- The machine's invariant: every device has an upward window, a legal size and contents in canonical form inside its
buffer, and the ticker list holds the CPU once. -/
def State.Inv (s : State) : Prop := devicesOk s.devices = true ∧ tickersOk s.tickers = true

/-- What no tick changes: the windows, kinds and sizes of the devices and all ROM contents, the ticker list, and the
host's configuration. -/
def State.platform (s : State) : List (Word × Word × Store) × List Ticker × Bool × Bool × Params :=
  (s.devices.map Device.fixedPart, s.tickers, s.decimalDisabled, s.debugOn, s.params)

end Sys2Proof.Machine
end

