-- ==== Sys2Proof/Certificates/Slice0/Obligations.lean ====
section
/-! DEFINITION. The statements for the provers, from the numbered rules of spec/. In a list of instructions `b` and
`w` are the operand bytes, at every value. `addressed i s` is the effective address of an instruction and the state
its behaviour runs from (40_step_and_addressing.md R100 step 6); what it is, mode by mode, is stated once for all
instructions (`SimpleModes` to `RelativeMode`). In a state given as `{ t with … }` every field not named is unchanged.
-/

open Sys2Proof Sys2Proof.Machine

/-! ## Encoding -/

/-- Decoding an instruction's encoding gives the instruction back, with the bytes after it: every constructor, every
operand (30_encoding.md R80 to R85). -/
def Obligations.DecodeOfEncode : Prop :=
  ∀ (i : Instr) (rest : List Byte), decode (encode i ++ rest) = .ok (i, rest)

/-- What the decoder reads are exactly the bytes of the instruction's encoding: no byte is dropped, none has a second
meaning. -/
def Obligations.EncodeOfDecode : Prop :=
  ∀ (bytes rest : List Byte) (i : Instr), decode bytes = .ok (i, rest) → bytes = encode i ++ rest

/-- The decoder is total on any bytes: every opcode byte and, after it, every operand byte decodes, to an instruction
of that opcode's row, which the opcode byte alone decides, as it decides the length, 1, 2 or 3; and the duplicate
encodings behave identically (30_encoding.md R81, R89). -/
def Obligations.EveryByteDecodes : Prop :=
  (∀ (op b1 b2 : Byte) (rest : List Byte),
    let i := instrOf op b1 (mkWord b2 b1)
    decode (op :: b1 :: b2 :: rest) = .ok (i, (b1 :: b2 :: rest).drop (operandCount op)) ∧
    i.row = (instrOf op 0 0).row ∧ i.row.opcode = op ∧
    (encode i).length = 1 + operandCount op ∧ operandCount op ≤ 2) ∧
  ∀ (b : Byte) (w : Word) (s : State),
    exec (.ancImm0B b) s = exec (.ancImm2B b) s ∧
    exec (.sbcImm b) s = exec (.sbcImmEB b) s ∧
    (∀ i ∈ ([.nop1A, .nop3A, .nop5A, .nop7A, .nopDA, .nopFA] : List Instr), exec i s = exec .nop s) ∧
    (∀ i ∈ ([.nopImm80 b, .nopImm82 b, .nopImm89 b, .nopImmC2 b, .nopImmE2 b]
        : List Instr), exec i s = exec (.nopImm80 b) s) ∧
    (∀ i ∈ ([.nopZp04 b, .nopZp44 b, .nopZp64 b] : List Instr), exec i s = exec (.nopZp04 b) s) ∧
    (∀ i ∈ ([.nopZpx14 b, .nopZpx34 b, .nopZpx54 b, .nopZpx74 b, .nopZpxD4 b, .nopZpxF4 b]
        : List Instr), exec i s = exec (.nopZpx14 b) s) ∧
    (∀ i ∈ ([.nopAbx1C w, .nopAbx3C w, .nopAbx5C w, .nopAbx7C w, .nopAbxDC w, .nopAbxFC w]
        : List Instr), exec i s = exec (.nopAbx1C w) s)

/-- The seven rows of the matrix that the source itself prints, with its two cycle facts (30_encoding.md R90). -/
def Obligations.SourcedRows : Prop :=
  decode [0xA9, 0x00] = .ok (.ldaImm 0x00, []) ∧
  decode [0xE9, 0x01] = .ok (.sbcImm 0x01, []) ∧
  decode [0xA1, 0x00] = .ok (.ldaIzx 0x00, []) ∧
  decode [0xB1, 0x00] = .ok (.ldaIzy 0x00, []) ∧
  decode [0x6C, 0xFF, 0x10] = .ok (.jmpInd 0x10FF, []) ∧
  decode [0x00, 0x00] = .ok (.brk, [0x00]) ∧
  decode [0x40] = .ok (.rti, []) ∧
  (Instr.ldaIzy 0x00).row.cycles = 5 ∧ serviceCycles = 7

/-! ## The tick -/

/-- A step runs the decoded instruction. On a bus of RAM and ROM, with the CPU the only ticker, at a boundary with no
latch set: if the bytes at PC decode to `i`, the step is `exec` of `i` from the state whose PC is past the instruction
(modulo 65536) and whose tick counter is one higher, followed by the trace line of the address fetched from
(`traced`); an error is passed on (40_step_and_addressing.md R100, 20_memory.md R60, 60_exceptions.md R331). -/
def Obligations.StepRunsDecoded : Prop :=
  ∀ (s : State) (i : Instr) (rest : List Byte), s.readyToFetch → s.cpuAlone → s.plainBus = true →
    decode [s.peek s.pc, s.peek (s.pc + 1), s.peek (s.pc + 2)] = .ok (i, rest) →
    step s = traced s.pc (exec i { s with
      tickCount := s.tickCount + 1, pc := s.pc + 1 + BitVec.ofNat 16 i.row.mode.operandBytes })

/-- The fetch on any bus, with devices that see each access: one read of the opcode at PC, then as many operand reads
as the opcode takes, at the following addresses, low byte first; then the instruction runs (20_memory.md R64 items 1
and 2, 40_step_and_addressing.md R100 steps 3 to 5). That these are all the accesses is the spec's own choice,
92_eei_decisions.md D28. -/
def Obligations.FetchAccesses : Prop :=
  ∀ s : State, s.readyToFetch → s.cpuAlone →
    let op := busRead s.devices s.pc
    let lo := busRead op.2 (s.pc + 1)
    let hi := busRead lo.2 (s.pc + 2)
    let seen := match operandCount op.1 with
      | 0 => op.2
      | 1 => lo.2
      | _ => hi.2
    step s = traced s.pc (exec (instrOf op.1 lo.1 (mkWord hi.1 lo.1)) { s with
      devices := seen, tickCount := s.tickCount + 1, pc := s.pc + 1 + BitVec.ofNat 16 (operandCount op.1) })

/-- Wait ticks: with the CPU the only ticker, `n` ticks of a wait of at least `n` change nothing but `waitCycles`,
which falls by `n`, and the tick counter (40_step_and_addressing.md R100 step 1; 70_reset_and_hazards.md R351). -/
def Obligations.WaitTicks : Prop :=
  ∀ (s : State) (n : Nat), s.cpuAlone → n ≤ s.waitCycles →
    Sys2Proof.core.run n s =
      .next { s with waitCycles := s.waitCycles - n, tickCount := s.tickCount + n }

/-- Interrupt service, with the CPU the only ticker, on any bus: at a boundary a latched NMI is served, before a
latched IRQ; without one a latched IRQ is served, whatever `P.I` is. PC high, PC low and P with B clear and U set are
written at `$0100 | SP` downward, I is set and nothing else of P, PC is read from the vector low byte first, the
served latch is cleared and the wait is 7 (60_exceptions.md R304 to R306). That `P.I` is not tested again is the
spec's own choice, 92_eei_decisions.md D18, as are the order of the pushes, D12, D27, and that D stays, D10. -/
def Obligations.InterruptService : Prop :=
  ∀ s : State, s.cpuAlone → s.waitCycles = 0 →
    let d1 := busWrite s.devices (0x0100 ||| s.sp.setWidth 16) (s.pc.extractLsb' 8 8)
    let d2 := busWrite d1 (0x0100 ||| (s.sp - 1).setWidth 16) (s.pc.extractLsb' 0 8)
    let d3 := busWrite d2 (0x0100 ||| (s.sp - 2).setWidth 16) ((s.p &&& 0xEF) ||| 0x20)
    (s.pendingNmi = true →
      let lo := busRead d3 0xFFFA
      let hi := busRead lo.2 0xFFFB
      step s = .next { s with
        devices := hi.2, sp := s.sp - 3, p := s.p ||| 0x04, pc := mkWord hi.1 lo.1, pendingNmi := false
        waitCycles := 7, tickCount := s.tickCount + 1 }) ∧
    (s.pendingNmi = false → s.pendingIrq = true →
      let lo := busRead d3 0xFFFE
      let hi := busRead lo.2 0xFFFF
      step s = .next { s with
        devices := hi.2, sp := s.sp - 3, p := s.p ||| 0x04, pc := mkWord hi.1 lo.1, pendingIrq := false
        waitCycles := 7, tickCount := s.tickCount + 1 })

/-- Requests: an IRQ request is latched if I is clear at that moment and leaves no trace if I is set; an NMI request
is latched whatever I is; repeated requests before a sample are one (60_exceptions.md R302, R303, R312). -/
def Obligations.Requests : Prop :=
  ∀ s : State,
    (getFlag .I s.p = false → s.irqReq = { s with pendingIrq := true }) ∧
    (getFlag .I s.p = true → s.irqReq = s) ∧
    s.nmiReq = { s with pendingNmi := true } ∧
    s.irqReq.irqReq = s.irqReq ∧ s.nmiReq.nmiReq = s.nmiReq

/-- The unknown opcodes: each of the eighteen rows stops with the fatal core error, whatever the state; and the tick
that fetches one has read the opcode byte and no more, reports its address, and leaves PC one past it and everything
else as it was, the tick counter incremented (47_undocumented.md R287; 60_exceptions.md R320). That these are the
eighteen bytes, and what the error leaves, are the spec's own choices, 92_eei_decisions.md D3, D19. -/
def Obligations.UnknownOpcode : Prop :=
  (∀ s : State, ∀ i ∈ ([.unk02, .unk12, .unk22, .unk32, .unk42, .unk52, .unk62, .unk72, .unk8B, .unk92, .unk93,
      .unk9B, .unk9F, .unkAB, .unkB2, .unkBB, .unkD2, .unkF2]
      : List Instr), exec i s = .fault (.unknownOpcode (s.pc - 1) s)) ∧
  ∀ s : State, s.readyToFetch → s.cpuAlone →
    (busRead s.devices s.pc).1 ∈ ([0x02, 0x12, 0x22, 0x32, 0x42, 0x52, 0x62, 0x72, 0x92, 0xB2, 0xD2, 0xF2,
      0x8B, 0x93, 0x9B, 0x9F, 0xAB, 0xBB] : List Byte) →
    step s = .fault (.unknownOpcode s.pc { s with
      devices := (busRead s.devices s.pc).2, pc := s.pc + 1, tickCount := s.tickCount + 1 })

/-- The fan-out of a tick: the counter first, then the tickers in registration order; an error ends it, and the later
tickers are not invoked (20_memory.md R60). -/
def Obligations.FanOutOrder : Prop :=
  (∀ s : State, step s = fanOut s.tickers { s with tickCount := s.tickCount + 1 }) ∧
  (∀ s : State, fanOut [] s = .next s) ∧
  (∀ s : State, fanOut [.cpu] s = cpuTick s) ∧
  (∀ (id : Nat) (s : State), fanOut [.subscriber id] s = subscriberTurn id s) ∧
  ∀ (before after : List Ticker) (s : State),
    (∀ t, fanOut before s = .next t → fanOut (before ++ after) s = fanOut after t) ∧
    (∀ r, fanOut before s = .fault r → fanOut (before ++ after) s = .fault r)

/-- The trace line, with the CPU the only ticker on a bus of RAM and ROM: an instruction tick that completes appends
one line, with the address fetched from, the instruction that stands there after execution, and the registers after
execution, exactly when `Debug` is set; a wait tick and a service tick append none. What stands there after execution
is the model's reading (notes/assumptions/7.md) (60_exceptions.md R331). -/
def Obligations.TraceLines : Prop :=
  ∀ s t : State, s.cpuAlone → s.plainBus = true → step s = .next t →
    (s.readyToFetch → s.debugOn = true →
      ∃ i rest, decode [t.peek s.pc, t.peek (s.pc + 1), t.peek (s.pc + 2)] = .ok (i, rest) ∧
        t.trace = s.trace ++
          [{ opAddr := s.pc, instr := i, a := t.a, x := t.x, y := t.y, sp := t.sp, p := t.p, pc := t.pc }]) ∧
    (¬ s.readyToFetch ∨ s.debugOn = false → t.trace = s.trace)

/-! ## Invariants and whole-machine rules -/

/-- Every step keeps the invariant of a well-formed machine, and so does a step that ends in an error, in the state it
leaves: windows, sizes and contents of the devices stay legal and canonical, and the CPU stays in the ticker list
once. It holds from every such state, with any devices, any subscribers and whatever they do. -/
def Obligations.StepKeepsInv : Prop :=
  ∀ s t : State, s.Inv → stateLeft (step s) = some t → t.Inv

/-- The machine after reset is well formed, at a boundary, with the CPU the only ticker, and is what construction on
the platform of notes/assumptions/1.md gives (70_reset_and_hazards.md R340, R341). -/
def Obligations.ResetMeetsInv : Prop :=
  State.reset.Inv ∧ State.reset.readyToFetch ∧ State.reset.cpuAlone ∧
  State.construct defaultDevices [] = State.reset ∧
  State.reset.a = 0xAA ∧ State.reset.x = 0x00 ∧ State.reset.y = 0x00 ∧ State.reset.sp = 0xFD ∧ State.reset.p = 0x34

/-- No tick changes the platform: the windows, kinds, order and sizes of the devices, the contents of every ROM, the
ticker list, and the host's configuration, whether the tick succeeds or ends in an error; and every tick, of either
kind, adds one to the counter (20_memory.md R51, R57, R59, R61; 00_scope.md R6). -/
def Obligations.PlatformFixed : Prop :=
  ∀ s t : State, stateLeft (step s) = some t →
    t.platform = s.platform ∧ t.tickCountOf = s.tickCountOf + 1

/-- No instruction changes a latch, the configuration, the ticker list, the tick counter or the trace (10_state.md R34
to R37, R42, R44). -/
def Obligations.InstructionsLeave : Prop :=
  ∀ (i : Instr) (s t : State), exec i s = .next t →
    t.pendingIrq = s.pendingIrq ∧ t.pendingNmi = s.pendingNmi ∧ t.decimalDisabled = s.decimalDisabled ∧
    t.debugOn = s.debugOn ∧ t.params = s.params ∧ t.tickers = s.tickers ∧ t.tickCount = s.tickCount ∧
    t.trace = s.trace ∧ t.devices.map Device.fixedPart = s.devices.map Device.fixedPart

/-- No instruction raises anything: the rows that complete, from every state, are exactly those that are not UNK
(60_exceptions.md R323). -/
def Obligations.OnlyUnknownStops : Prop :=
  ∀ (i : Instr) (s : State), (∃ t, exec i s = .next t) ↔ i.row.mnemonic ≠ "UNK"

/-- The cycle cost: the row's base cycles, plus one if the mode is abx, aby or izy and the index crossed a page, plus
one for a branch taken to another page, of which no instruction has both; so at most 9 (40_step_and_addressing.md
R124; 70_reset_and_hazards.md R352). The base counts and who pays the page-cross and branch cycles are the spec's own
choices, 92_eei_decisions.md D5, D6, D7. -/
def Obligations.CycleCost : Prop :=
  ∀ (i : Instr) (s t : State), exec i s = .next t →
    let crossed : Bool := match i.row.mode with
      | .abx => decide (i.operand.toNat / 256 ≠ (i.operand + s.x.setWidth 16).toNat / 256)
      | .aby => decide (i.operand.toNat / 256 ≠ (i.operand + s.y.setWidth 16).toNat / 256)
      | .izy => decide (((addressed i s).1 - s.y.setWidth 16).toNat / 256 ≠ (addressed i s).1.toNat / 256)
      | _ => false
    let branched : Bool := i.row.mode == .rel && decide (s.pc.toNat / 256 ≠ t.pc.toNat / 256)
    t.waitCycles = s.waitCycles + i.row.cycles + bit crossed + bit branched ∧
    bit crossed + bit branched ≤ 1 ∧ i.row.cycles + bit crossed + bit branched ≤ 9

/-- Cycle counts never affect a value: from two states that differ only in `waitCycles`, an instruction does the same
to everything else, and adds the same number of cycles (70_reset_and_hazards.md R350). -/
def Obligations.TimeAffectsNoValue : Prop :=
  ∀ (i : Instr) (s t : State) (w : Nat), exec i s = .next t →
    s.waitCycles ≤ t.waitCycles ∧
    exec i { s with waitCycles := w } = .next { t with waitCycles := w + (t.waitCycles - s.waitCycles) }

/-- The flags each instruction may change (10_state.md R33, by rows of its table): every flag not named is unchanged.
-/
def Obligations.FlagTable : Prop :=
  ∀ (i : Instr) (s t : State), exec i s = .next t →
    let may : List Flag :=
      if i.row.mnemonic ∈ ["LDA", "LDX", "LDY", "TAX", "TXA", "TAY", "TYA", "TSX", "PLA", "AND", "ORA", "EOR", "INC",
        "DEC", "INX", "INY", "DEX", "DEY", "LAX"] then [.N, .Z]
      else if i.row.mnemonic ∈ ["ADC", "SBC", "RRA", "ISC", "ARR"] then [.N, .V, .Z, .C]
      else if i.row.mnemonic ∈ ["CMP", "CPX", "CPY", "DCP", "AXS", "ASL", "LSR", "ROL", "ROR", "ASL A", "LSR A",
        "ROL A", "ROR A", "SLO", "RLA", "SRE", "ANC", "ALR"] then [.N, .Z, .C]
      else if i.row.mnemonic = "BIT" then [.N, .V, .Z]
      else if i.row.mnemonic ∈ ["CLC", "SEC"] then [.C]
      else if i.row.mnemonic ∈ ["CLI", "SEI", "BRK"] then [.I]
      else if i.row.mnemonic ∈ ["CLD", "SED"] then [.D]
      else if i.row.mnemonic = "CLV" then [.V]
      else if i.row.mnemonic ∈ ["PLP", "RTI"] then [.N, .V, .U, .B, .D, .I, .Z, .C]
      else []
    ∀ f : Flag, f ∉ may → getFlag f t.p = getFlag f s.p

/-- The registers each instruction may change (10_state.md R20 to R23): A, X, Y, SP and PC are each unchanged but for
the instructions named; P is in `FlagTable`. -/
def Obligations.RegisterTable : Prop :=
  ∀ (i : Instr) (s t : State), exec i s = .next t →
    (i.row.mnemonic ∉ ["LDA", "PLA", "TXA", "TYA", "LAX", "ADC", "SBC", "AND", "ORA", "EOR", "ASL A", "LSR A",
      "ROL A", "ROR A", "SLO", "RLA", "SRE", "RRA", "ISC", "ANC", "ALR", "ARR"] → t.a = s.a) ∧
    (i.row.mnemonic ∉ ["LDX", "TAX", "TSX", "INX", "DEX", "LAX", "AXS"] → t.x = s.x) ∧
    (i.row.mnemonic ∉ ["LDY", "TAY", "INY", "DEY"] → t.y = s.y) ∧
    (i.row.mnemonic ∉ ["PHA", "PHP", "PLA", "PLP", "JSR", "RTS", "RTI", "BRK", "TXS"] → t.sp = s.sp) ∧
    (i.row.mnemonic ∉ ["JMP", "JSR", "RTS", "RTI", "BRK", "BPL", "BMI", "BVC", "BVS", "BCC", "BCS", "BNE", "BEQ"] →
      t.pc = s.pc)

/-- RESET, from any state, on any bus: the register values, PC from the two reads of `$FFFC` and `$FFFD`, no wait, and
nothing else but the latches, which are cleared while the parameter `resetClearsLatches` is true (its default,
92_eei_decisions.md D8) and kept while it is false (70_reset_and_hazards.md R340). -/
def Obligations.ResetEvent : Prop :=
  ∀ s : State,
    let lo := busRead s.devices 0xFFFC
    let hi := busRead lo.2 0xFFFD
    let r := { s with
      a := 0xAA, x := 0x00, y := 0x00, sp := 0xFD, p := 0b00110100, pc := mkWord hi.1 lo.1, waitCycles := 0
      devices := hi.2 }
    (s.params.resetClearsLatches = true → s.resetEvent = { r with pendingIrq := false, pendingNmi := false }) ∧
    (s.params.resetClearsLatches = false → s.resetEvent = r)

/-! ## The bus and memory -/

/-- The address decoder: the first triple whose window holds the address answers a read and takes a write, at the
offset `addr - start`; every other triple is untouched; with none, a read gives the byte 0 and a write is dropped
(20_memory.md R52, R53). -/
def Obligations.FirstMatchDecoder : Prop :=
  (∀ (before after : List Device) (d : Device) (a : Word) (v : Byte),
    (∀ e ∈ before, ¬ (e.first.toNat ≤ a.toNat ∧ a.toNat ≤ e.last.toNat)) →
    d.first.toNat ≤ a.toNat → a.toNat ≤ d.last.toNat →
    busRead (before ++ d :: after) a =
      ((d.store.read (a.toNat - d.first.toNat)).1,
        before ++ { d with store := (d.store.read (a.toNat - d.first.toNat)).2 } :: after) ∧
    busWrite (before ++ d :: after) a v =
      before ++ { d with store := d.store.write (a.toNat - d.first.toNat) v } :: after) ∧
  ∀ (ds : List Device) (a : Word) (v : Byte),
    (∀ e ∈ ds, ¬ (e.first.toNat ≤ a.toNat ∧ a.toNat ≤ e.last.toNat)) →
    busRead ds a = (0, ds) ∧ busWrite ds a v = ds

/-- RAM and ROM: a RAM of canonical contents gives back the byte last written to the index `offset mod size`, and the
bytes written before at every other index; a new RAM reads zero; a read changes neither; a ROM reads alike and drops
writes (20_memory.md R56, R57). -/
def Obligations.RamAndRom : Prop :=
  ∀ (size : Nat) (m : Memory) (off off' : Nat) (v : Byte), Memory.wf m = true →
    (((Store.ram size m).write off v).read off').1 =
      (if off' % size = off % size then v else ((Store.ram size m).read off').1) ∧
    ((Store.ram size []).read off).1 = 0 ∧
    ((Store.ram size m).read off).2 = .ram size m ∧
    (Store.rom size m).read off = (((Store.ram size m).read off).1, .rom size m) ∧
    (Store.rom size m).write off v = .rom size m

/-- Memory is a function of what it holds: two canonical contents that read alike everywhere are the same data. -/
def Obligations.CanonicalForm : Prop :=
  ∀ m m' : Memory, Memory.wf m = true → Memory.wf m' = true → (∀ k, Memory.read m k = Memory.read m' k) → m = m'

/-- Reading after writing, through the bus of a well-formed machine: at every mirror of a RAM address the byte
written; at every address outside the byte stored, where RAM, ROM or nothing answers, what was read before
(20_memory.md R53, R56, R68). -/
def Obligations.ReadAfterWrite : Prop :=
  ∀ (s : State) (a b : Word) (v : Byte),
    (s.Inv → backed s.devices b = true → cellOf s.devices a = cellOf s.devices b → (s.memWrite a v).peek b = v) ∧
    (settled s.devices b = true → s.apart a b → (s.memWrite a v).peek b = s.peek b)

/-! ## Addressing modes -/

/-- Modes zp, zpx, zpy and abs (and imm and none): the effective address, with no bus access and no cycle
(40_step_and_addressing.md R104 to R108, R111). -/
def Obligations.SimpleModes : Prop :=
  ∀ (arg w : Word) (b : Byte) (s : State),
    resolve .zp arg (b.setWidth 16) s = (b.setWidth 16, s) ∧
    resolve .zpx arg (b.setWidth 16) s = (BitVec.ofNat 16 ((b.toNat + s.x.toNat) % 256), s) ∧
    resolve .zpy arg (b.setWidth 16) s = (BitVec.ofNat 16 ((b.toNat + s.y.toNat) % 256), s) ∧
    resolve .abs arg w s = (w, s) ∧
    resolve .imm arg (b.setWidth 16) s = (arg, s) ∧
    (resolve .none arg w s).2 = s ∧
    Mode.zp.operandBytes = 1 ∧ Mode.zpx.operandBytes = 1 ∧ Mode.zpy.operandBytes = 1 ∧ Mode.abs.operandBytes = 2

/-- Modes abx, aby and izy: base plus index modulo 65536, and one cycle when the high byte differs; izy reads its base
from two bytes of page zero, low byte first (40_step_and_addressing.md R110, R112, R113, R116). That every opcode of
these modes pays the cycle, and the wrap at 65536, are the spec's own choices, 92_eei_decisions.md D7, D16. -/
def Obligations.IndexedModes : Prop :=
  ∀ (arg w : Word) (b : Byte) (s : State),
    let at' (base : Word) (index : Byte) (t : State) : Word × State :=
      (BitVec.ofNat 16 ((base.toNat + index.toNat) % 65536),
        { t with waitCycles :=
            t.waitCycles + if base.toNat / 256 = (base.toNat + index.toNat) % 65536 / 256 then 0 else 1 })
    let lo := busRead s.devices (b.setWidth 16)
    let hi := busRead lo.2 (BitVec.ofNat 16 ((b.toNat + 1) % 256))
    resolve .abx arg w s = at' w s.x s ∧
    resolve .aby arg w s = at' w s.y s ∧
    resolve .izy arg (b.setWidth 16) s = at' (mkWord hi.1 lo.1) s.y { s with devices := hi.2 }

/-- Modes izx and ind: the pointer's two bytes, low byte first; in izx both in page zero, in ind the high byte from
the page of the low byte; no cycle (40_step_and_addressing.md R109, R114). -/
def Obligations.PointerModes : Prop :=
  ∀ (arg w : Word) (b : Byte) (s : State),
    (let p := (b.toNat + s.x.toNat) % 256
     let lo := busRead s.devices (BitVec.ofNat 16 p)
     let hi := busRead lo.2 (BitVec.ofNat 16 ((p + 1) % 256))
     resolve .izx arg (b.setWidth 16) s = (mkWord hi.1 lo.1, { s with devices := hi.2 })) ∧
    (let lo := busRead s.devices w
     let hi := busRead lo.2 (BitVec.ofNat 16 (w.toNat / 256 * 256 + (w.toNat + 1) % 256))
     resolve .ind arg w s = (mkWord hi.1 lo.1, { s with devices := hi.2 }))

/-- Mode rel: the operand as a signed byte, from the address after the operand byte, modulo 65536; no access, no cycle
(40_step_and_addressing.md R115). The wrap at 65536 is the spec's own choice, 92_eei_decisions.md D16. -/
def Obligations.RelativeMode : Prop :=
  ∀ (arg : Word) (b : Byte) (s : State),
    resolve .rel arg (b.setWidth 16) s =
      (BitVec.ofInt 16 (arg.toNat + 1 + (if b.toNat < 128 then (b.toNat : Int) else b.toNat - 256)), s)

/-! ## Helpers -/

/-- `push8` then `pop8` on a RAM stack: the byte pushed comes back and SP is as before; the byte goes to `0x0100 +
SP`, always in the stack page, and SP wraps modulo 256 (40_step_and_addressing.md R117, R118; 10_state.md R22). That
the byte is written before SP decreases and read after it increases is the spec's own choice, 92_eei_decisions.md D12.
-/
def Obligations.PushPop : Prop :=
  ∀ (s : State) (v : Byte),
    (stackAddr s.sp).toNat = 0x0100 + s.sp.toNat ∧
    (s.push8 v).sp.toNat = (s.sp.toNat + 255) % 256 ∧ s.pop8.2.sp.toNat = (s.sp.toNat + 1) % 256 ∧
    (s.Inv → backed s.devices (stackAddr s.sp) = true →
      (s.push8 v).pop8.1 = v ∧ (s.push8 v).pop8.2.sp = s.sp ∧ (s.push8 v).pop8.2.p = s.p)

/-- `set_nz`: N is bit 7 of the byte and Z says whether it is zero; no other flag changes. `compare`: N and Z as
`set_nz` of the difference, C exactly when `a >= b` unsigned; no other flag changes (40_step_and_addressing.md R121,
R122). -/
def Obligations.FlagHelpers : Prop :=
  (∀ (v p : Byte) (f : Flag),
    getFlag .N (nzOf v p) = v.getLsbD 7 ∧ (getFlag .Z (nzOf v p) = true ↔ v = 0) ∧
    (f ≠ .N → f ≠ .Z → getFlag f (nzOf v p) = getFlag f p)) ∧
  ∀ (a b p : Byte) (f : Flag),
    getFlag .N (compareOf a b p) = ((a.toNat + 256 - b.toNat) % 256).testBit 7 ∧
    (getFlag .Z (compareOf a b p) = true ↔ a = b) ∧
    (getFlag .C (compareOf a b p) = true ↔ b.toNat ≤ a.toNat) ∧
    (f ≠ .N → f ≠ .Z → f ≠ .C → getFlag f (compareOf a b p) = getFlag f p)

/-! ## Loads, stores, transfers -/

/-- LDA, LDX and LDY in every form: the byte read at the effective address, and N and Z of it; LAX in every form: A
from one read and X from a second of the same address, N and Z from X (41_load_store_transfer.md R130 to R132;
47_undocumented.md R267). -/
def Obligations.Loads : Prop :=
  ∀ (b : Byte) (w : Word) (s : State),
    (∀ i ∈ ([.ldaIzx b, .ldaZp b, .ldaImm b, .ldaAbs w, .ldaIzy b, .ldaZpx b, .ldaAby w, .ldaAbx w] : List Instr),
      let r := addressed i s
      let m := busRead r.2.devices r.1
      exec i s = .next { r.2 with
        devices := m.2, a := m.1, p := nzOf m.1 s.p, waitCycles := r.2.waitCycles + i.row.cycles }) ∧
    (∀ i ∈ ([.ldxImm b, .ldxZp b, .ldxAbs w, .ldxZpy b, .ldxAby w] : List Instr),
      let r := addressed i s
      let m := busRead r.2.devices r.1
      exec i s = .next { r.2 with
        devices := m.2, x := m.1, p := nzOf m.1 s.p, waitCycles := r.2.waitCycles + i.row.cycles }) ∧
    (∀ i ∈ ([.ldyImm b, .ldyZp b, .ldyAbs w, .ldyZpx b, .ldyAbx w] : List Instr),
      let r := addressed i s
      let m := busRead r.2.devices r.1
      exec i s = .next { r.2 with
        devices := m.2, y := m.1, p := nzOf m.1 s.p, waitCycles := r.2.waitCycles + i.row.cycles }) ∧
    (∀ i ∈ ([.laxIzx b, .laxZp b, .laxAbs w, .laxIzy b, .laxZpy b, .laxAby w] : List Instr),
      let r := addressed i s
      let m := busRead r.2.devices r.1
      let m' := busRead m.2 r.1
      exec i s = .next { r.2 with
        devices := m'.2, a := m.1, x := m'.1, p := nzOf m'.1 s.p, waitCycles := r.2.waitCycles + i.row.cycles })

/-- STA, STX, STY and SAX in every form: the register, or A and X, written at the effective address, with no read of
it and no flag (41_load_store_transfer.md R133 to R135; 47_undocumented.md R266). -/
def Obligations.Stores : Prop :=
  ∀ (b : Byte) (w : Word) (s : State),
    (∀ i ∈ ([.staIzx b, .staZp b, .staAbs w, .staIzy b, .staZpx b, .staAby w, .staAbx w] : List Instr),
      let r := addressed i s
      exec i s = .next { r.2 with
        devices := busWrite r.2.devices r.1 s.a, waitCycles := r.2.waitCycles + i.row.cycles }) ∧
    (∀ i ∈ ([.stxZp b, .stxAbs w, .stxZpy b] : List Instr),
      let r := addressed i s
      exec i s = .next { r.2 with
        devices := busWrite r.2.devices r.1 s.x, waitCycles := r.2.waitCycles + i.row.cycles }) ∧
    (∀ i ∈ ([.styZp b, .styAbs w, .styZpx b] : List Instr),
      let r := addressed i s
      exec i s = .next { r.2 with
        devices := busWrite r.2.devices r.1 s.y, waitCycles := r.2.waitCycles + i.row.cycles }) ∧
    (∀ i ∈ ([.saxIzx b, .saxZp b, .saxAbs w, .saxZpy b] : List Instr),
      let r := addressed i s
      exec i s = .next { r.2 with
        devices := busWrite r.2.devices r.1 (s.a &&& s.x), waitCycles := r.2.waitCycles + i.row.cycles })

/-- The six transfers: encoding, result, flags (none for TXS), two cycles, nothing else (41_load_store_transfer.md
R136 to R141). The encodings and cycles are those of 30_encoding.md R85. -/
def Obligations.Transfers : Prop :=
  ∀ s : State,
    (encode .tax = [0xAA] ∧
      exec .tax s = .next { s with x := s.a, p := nzOf s.a s.p, waitCycles := s.waitCycles + 2 }) ∧
    (encode .txa = [0x8A] ∧
      exec .txa s = .next { s with a := s.x, p := nzOf s.x s.p, waitCycles := s.waitCycles + 2 }) ∧
    (encode .tay = [0xA8] ∧
      exec .tay s = .next { s with y := s.a, p := nzOf s.a s.p, waitCycles := s.waitCycles + 2 }) ∧
    (encode .tya = [0x98] ∧
      exec .tya s = .next { s with a := s.y, p := nzOf s.y s.p, waitCycles := s.waitCycles + 2 }) ∧
    (encode .tsx = [0xBA] ∧
      exec .tsx s = .next { s with x := s.sp, p := nzOf s.sp s.p, waitCycles := s.waitCycles + 2 }) ∧
    (encode .txs = [0x9A] ∧
      exec .txs s = .next { s with sp := s.x, waitCycles := s.waitCycles + 2 })

/-! ## Arithmetic -/

/-- ADC and SBC in every form: the byte at the effective address, the decimal path exactly when D is set and
`decimalDisabled` is not, A and the flags N, V, Z, C from the path taken (42_arithmetic.md R150, R155). -/
def Obligations.AddSubtract : Prop :=
  ∀ (b : Byte) (w : Word) (s : State),
    let decimal := getFlag .D s.p && !s.decimalDisabled
    (∀ i ∈ ([.adcIzx b, .adcZp b, .adcImm b, .adcAbs w, .adcIzy b, .adcZpx b, .adcAby w, .adcAbx w] : List Instr),
      let r := addressed i s
      let m := busRead r.2.devices r.1
      let o := if decimal then adcDecimal s.a m.1 (getFlag .C s.p) else adcBinary s.a m.1 (getFlag .C s.p)
      exec i s = .next { r.2 with
        devices := m.2, a := o.r, p := o.flags s.p, waitCycles := r.2.waitCycles + i.row.cycles }) ∧
    (∀ i ∈ ([.sbcIzx b, .sbcZp b, .sbcImm b, .sbcImmEB b, .sbcAbs w, .sbcIzy b, .sbcZpx b, .sbcAby w, .sbcAbx w]
        : List Instr),
      let r := addressed i s
      let m := busRead r.2.devices r.1
      let o := if decimal then sbcDecimal s.a m.1 (getFlag .C s.p) else sbcBinary s.a m.1 (getFlag .C s.p)
      exec i s = .next { r.2 with
        devices := m.2, a := o.r, p := o.flags s.p, waitCycles := r.2.waitCycles + i.row.cycles })

/-- Binary addition: the sum modulo 256, C its carry, Z and N of it, and V exactly when the sum of the operands read
as signed numbers, plus the carry, is outside -128 to 127 (42_arithmetic.md R151). -/
def Obligations.BinaryAdd : Prop :=
  ∀ (a m : Byte) (c : Bool),
    let o := adcBinary a m c
    o.r.toNat = (a.toNat + m.toNat + bit c) % 256 ∧
    (o.c = true ↔ a.toNat + m.toNat + bit c > 0xFF) ∧
    (o.z = true ↔ o.r = 0) ∧ (o.n = true ↔ o.r.toNat ≥ 128) ∧
    (o.v = true ↔ (a.toInt + m.toInt + bit c < -128 ∨ a.toInt + m.toInt + bit c > 127))

/-- Binary subtraction: the difference with the complement of the carry as borrow, modulo 256, C when there is no
borrow, V when the signed difference is outside -128 to 127; and it equals binary addition of the complemented
operand, result and all four flags. Subtracting what was added, with the complement of the first carry in as the
carry, gives the original accumulator back (42_arithmetic.md R156, R158 item 8). -/
def Obligations.BinarySubtract : Prop :=
  ∀ (a m : Byte) (c : Bool),
    let o := sbcBinary a m c
    (o.r.toNat : Int) = ((a.toNat : Int) - m.toNat - (1 - bit c)) % 256 ∧
    (o.c = true ↔ (a.toNat : Int) - m.toNat - (1 - bit c) ≥ 0) ∧
    (o.v = true ↔ (a.toInt - m.toInt - (1 - bit c) < -128 ∨ a.toInt - m.toInt - (1 - bit c) > 127)) ∧
    o = adcBinary a (m ^^^ 0xFF) c ∧
    (sbcBinary (adcBinary a m c).r m (!c)).r = a

/-- Decimal addition on valid operands: for digits 0 to 9, A is the decimal sum of the two-digit numbers plus the
carry, modulo 100, as two digits, and C says that the sum is above 99; Z is that of the binary sum (42_arithmetic.md
R152). What an operand with a digit above 9 gives is left to the rule's pseudocode (notes/assumptions/10.md). The
algorithm is the spec's own choice, 92_eei_decisions.md D13. -/
def Obligations.DecimalAdd : Prop :=
  ∀ (a m : Byte) (c : Bool), a.toNat / 16 ≤ 9 → a.toNat % 16 ≤ 9 → m.toNat / 16 ≤ 9 → m.toNat % 16 ≤ 9 →
    let o := adcDecimal a m c
    let sum := (a.toNat / 16 * 10 + a.toNat % 16) + (m.toNat / 16 * 10 + m.toNat % 16) + bit c
    o.r.toNat / 16 * 10 + o.r.toNat % 16 = sum % 100 ∧ o.r.toNat % 16 ≤ 9 ∧ o.r.toNat / 16 ≤ 9 ∧
    (o.c = true ↔ sum > 99) ∧ (o.z = true ↔ (a.toNat + m.toNat + bit c) % 256 = 0)

/-- Decimal subtraction on valid operands: for digits 0 to 9, A is the decimal difference with borrow, modulo 100, as
two digits; and all four flags are the binary ones, whatever the digits (42_arithmetic.md R156, R157). The algorithm
is the spec's own choice, 92_eei_decisions.md D13; what an operand with a digit above 9 gives is left to it
(notes/assumptions/10.md). -/
def Obligations.DecimalSubtract : Prop :=
  ∀ (a m : Byte) (c : Bool),
    let o := sbcDecimal a m c
    let d := sbcBinary a m c
    (o.n = d.n ∧ o.v = d.v ∧ o.z = d.z ∧ o.c = d.c) ∧
    (a.toNat / 16 ≤ 9 → a.toNat % 16 ≤ 9 → m.toNat / 16 ≤ 9 → m.toNat % 16 ≤ 9 →
      ((o.r.toNat / 16 * 10 + o.r.toNat % 16 : Nat) : Int) =
        ((a.toNat / 16 * 10 + a.toNat % 16 : Nat) - (m.toNat / 16 * 10 + m.toNat % 16 : Nat) - (1 - bit c : Int)) % 100 ∧
      o.r.toNat % 16 ≤ 9 ∧ o.r.toNat / 16 ≤ 9)

/-! ## Logic and shifts -/

/-- AND, ORA, EOR and BIT in every form (43_logic_shift.md R170 to R173). -/
def Obligations.Logic : Prop :=
  ∀ (b : Byte) (w : Word) (s : State),
    (∀ i ∈ ([.andIzx b, .andZp b, .andImm b, .andAbs w, .andIzy b, .andZpx b, .andAby w, .andAbx w] : List Instr),
      let r := addressed i s
      let m := busRead r.2.devices r.1
      exec i s = .next { r.2 with
        devices := m.2, a := s.a &&& m.1, p := nzOf (s.a &&& m.1) s.p
        waitCycles := r.2.waitCycles + i.row.cycles }) ∧
    (∀ i ∈ ([.oraIzx b, .oraZp b, .oraImm b, .oraAbs w, .oraIzy b, .oraZpx b, .oraAby w, .oraAbx w] : List Instr),
      let r := addressed i s
      let m := busRead r.2.devices r.1
      exec i s = .next { r.2 with
        devices := m.2, a := s.a ||| m.1, p := nzOf (s.a ||| m.1) s.p
        waitCycles := r.2.waitCycles + i.row.cycles }) ∧
    (∀ i ∈ ([.eorIzx b, .eorZp b, .eorImm b, .eorAbs w, .eorIzy b, .eorZpx b, .eorAby w, .eorAbx w] : List Instr),
      let r := addressed i s
      let m := busRead r.2.devices r.1
      exec i s = .next { r.2 with
        devices := m.2, a := s.a ^^^ m.1, p := nzOf (s.a ^^^ m.1) s.p
        waitCycles := r.2.waitCycles + i.row.cycles }) ∧
    (∀ i ∈ ([.bitZp b, .bitAbs w] : List Instr),
      let r := addressed i s
      let m := busRead r.2.devices r.1
      exec i s = .next { r.2 with
        devices := m.2
        p := putFlag .V (m.1.getLsbD 6) (putFlag .N (m.1.getLsbD 7) (putFlag .Z (s.a &&& m.1 == 0) s.p))
        waitCycles := r.2.waitCycles + i.row.cycles })

/-- ASL, LSR, ROL and ROR of the accumulator: the byte moves one bit, the old carry (or 0) enters, C is the bit
shifted out, N and Z of the result; two cycles, nothing else (43_logic_shift.md R174 to R177). The encodings and
cycles are those of 30_encoding.md R85. -/
def Obligations.AccumulatorShifts : Prop :=
  ∀ s : State,
    let c : Byte := if getFlag .C s.p then 1 else 0
    let done (r : Byte) (out : Bool) : Host.Outcome State Fault Refusal :=
      .next { s with a := r, p := nzOf r (putFlag .C out s.p), waitCycles := s.waitCycles + 2 }
    (encode .aslA = [0x0A] ∧ exec .aslA s = done (s.a <<< 1) (s.a.getLsbD 7)) ∧
    (encode .lsrA = [0x4A] ∧ exec .lsrA s = done (s.a >>> 1) (s.a.getLsbD 0)) ∧
    (encode .rolA = [0x2A] ∧ exec .rolA s = done (s.a <<< 1 ||| c) (s.a.getLsbD 7)) ∧
    (encode .rorA = [0x6A] ∧ exec .rorA s = done (s.a >>> 1 ||| c <<< 7) (s.a.getLsbD 0))

/-- ASL, LSR, ROL and ROR of memory in every form: read, write of the shifted byte, read back; C from the bit shifted
out, N and Z from the byte read back (43_logic_shift.md R178 to R182). -/
def Obligations.MemoryShifts : Prop :=
  ∀ (b : Byte) (w : Word) (s : State),
    let c : Byte := if getFlag .C s.p then 1 else 0
    let does (i : Instr) (f : Byte → Byte) (out : Nat) : Prop :=
      let r := addressed i s
      let m := busRead r.2.devices r.1
      let v := busRead (busWrite m.2 r.1 (f m.1)) r.1
      exec i s = .next { r.2 with
        devices := v.2, p := nzOf v.1 (putFlag .C (m.1.getLsbD out) s.p)
        waitCycles := r.2.waitCycles + i.row.cycles }
    (∀ i ∈ ([.aslZp b, .aslAbs w, .aslZpx b, .aslAbx w] : List Instr), does i (fun m => m <<< 1) 7) ∧
    (∀ i ∈ ([.lsrZp b, .lsrAbs w, .lsrZpx b, .lsrAbx w] : List Instr), does i (fun m => m >>> 1) 0) ∧
    (∀ i ∈ ([.rolZp b, .rolAbs w, .rolZpx b, .rolAbx w] : List Instr), does i (fun m => m <<< 1 ||| c) 7) ∧
    (∀ i ∈ ([.rorZp b, .rorAbs w, .rorZpx b, .rorAbx w] : List Instr), does i (fun m => m >>> 1 ||| c <<< 7) 0)

/-! ## Increments and compares -/

/-- INC and DEC in every form: read, write of the byte plus or minus one modulo 256; N and Z from the byte computed,
or from a read-back where the parameter says so; the default of the parameter is the spec's own choice,
92_eei_decisions.md D11 (44_incdec_compare.md R190, R191). -/
def Obligations.IncrementDecrement : Prop :=
  ∀ (b : Byte) (w : Word) (s : State),
    let does (i : Instr) (f : Byte → Byte) : Prop :=
      let r := addressed i s
      let m := busRead r.2.devices r.1
      let d := busWrite m.2 r.1 (f m.1)
      let v := busRead d r.1
      (s.params.incdecNz = .computed → exec i s = .next { r.2 with
        devices := d, p := nzOf (f m.1) s.p, waitCycles := r.2.waitCycles + i.row.cycles }) ∧
      (s.params.incdecNz = .readback → exec i s = .next { r.2 with
        devices := v.2, p := nzOf v.1 s.p, waitCycles := r.2.waitCycles + i.row.cycles })
    (∀ i ∈ ([.incZp b, .incAbs w, .incZpx b, .incAbx w] : List Instr), does i (fun m => m + 1)) ∧
    (∀ i ∈ ([.decZp b, .decAbs w, .decZpx b, .decAbx w] : List Instr), does i (fun m => m - 1))

/-- INX, INY, DEX and DEY: one more or less modulo 256, N and Z of the result, two cycles, nothing else
(44_incdec_compare.md R192 to R195). The encodings and cycles are those of 30_encoding.md R85. -/
def Obligations.RegisterSteps : Prop :=
  ∀ s : State,
    (encode .inx = [0xE8] ∧
      exec .inx s = .next { s with x := s.x + 1, p := nzOf (s.x + 1) s.p, waitCycles := s.waitCycles + 2 }) ∧
    (encode .iny = [0xC8] ∧
      exec .iny s = .next { s with y := s.y + 1, p := nzOf (s.y + 1) s.p, waitCycles := s.waitCycles + 2 }) ∧
    (encode .dex = [0xCA] ∧
      exec .dex s = .next { s with x := s.x - 1, p := nzOf (s.x - 1) s.p, waitCycles := s.waitCycles + 2 }) ∧
    (encode .dey = [0x88] ∧
      exec .dey s = .next { s with y := s.y - 1, p := nzOf (s.y - 1) s.p, waitCycles := s.waitCycles + 2 })

/-- CMP, CPX and CPY in every form: `compare` of the register and the byte read, and nothing stored
(44_incdec_compare.md R196 to R198). -/
def Obligations.Compares : Prop :=
  ∀ (b : Byte) (w : Word) (s : State),
    let does (i : Instr) (reg : Byte) : Prop :=
      let r := addressed i s
      let m := busRead r.2.devices r.1
      exec i s = .next { r.2 with
        devices := m.2, p := compareOf reg m.1 s.p, waitCycles := r.2.waitCycles + i.row.cycles }
    (∀ i ∈ ([.cmpIzx b, .cmpZp b, .cmpImm b, .cmpAbs w, .cmpIzy b, .cmpZpx b, .cmpAby w, .cmpAbx w]
        : List Instr), does i s.a) ∧
    (∀ i ∈ ([.cpxImm b, .cpxZp b, .cpxAbs w] : List Instr), does i s.x) ∧
    (∀ i ∈ ([.cpyImm b, .cpyZp b, .cpyAbs w] : List Instr), does i s.y)

/-! ## Control flow -/

/-- JMP in both forms and JSR: PC is the effective address; JSR first pushes PC - 1, high byte first
(45_control_flow.md R210, R211; the push order is the spec's own choice, 92_eei_decisions.md D12, D27). -/
def Obligations.JumpAndCall : Prop :=
  ∀ (w : Word) (s : State),
    exec (.jmpAbs w) s = .next { s with pc := w, waitCycles := s.waitCycles + 3 } ∧
    (let r := addressed (.jmpInd w) s
     exec (.jmpInd w) s = .next { r.2 with pc := r.1, waitCycles := r.2.waitCycles + 5 }) ∧
    (let d := busWrite s.devices (0x0100 ||| s.sp.setWidth 16) ((s.pc - 1).extractLsb' 8 8)
     exec (.jsr w) s = .next { s with
       devices := busWrite d (0x0100 ||| (s.sp - 1).setWidth 16) ((s.pc - 1).extractLsb' 0 8)
       sp := s.sp - 2, pc := w, waitCycles := s.waitCycles + 6 })

/-- RTS and RTI: the word popped, low byte first, plus one for RTS; RTI first pops P, with B and U forced to 1
(45_control_flow.md R212, R213). The order of the pops is the spec's own choice, 92_eei_decisions.md D12, D27. -/
def Obligations.Returns : Prop :=
  ∀ s : State,
    (let lo := busRead s.devices (0x0100 ||| (s.sp + 1).setWidth 16)
     let hi := busRead lo.2 (0x0100 ||| (s.sp + 2).setWidth 16)
     exec .rts s = .next { s with
       devices := hi.2, sp := s.sp + 2, pc := mkWord hi.1 lo.1 + 1, waitCycles := s.waitCycles + 6 }) ∧
    (let p := busRead s.devices (0x0100 ||| (s.sp + 1).setWidth 16)
     let lo := busRead p.2 (0x0100 ||| (s.sp + 2).setWidth 16)
     let hi := busRead lo.2 (0x0100 ||| (s.sp + 3).setWidth 16)
     exec .rti s = .next { s with
       devices := hi.2, sp := s.sp + 3, p := p.1 ||| 0x30, pc := mkWord hi.1 lo.1, waitCycles := s.waitCycles + 6 })

/-- `JSR abs; RTS` returns control to the byte immediately after the JSR operand, on a RAM stack whose two bytes are
different cells (45_control_flow.md R211, R212: the source's property). -/
def Obligations.CallThenReturn : Prop :=
  ∀ (w : Word) (s t u : State), s.Inv →
    backed s.devices (stackAddr s.sp) = true → backed s.devices (stackAddr (s.sp - 1)) = true →
    s.apart (stackAddr (s.sp - 1)) (stackAddr s.sp) →
    exec (.jsr w) s = .next t → exec .rts t = .next u →
    u.pc = s.pc ∧ u.sp = s.sp ∧ u.a = s.a ∧ u.x = s.x ∧ u.y = s.y ∧ u.p = s.p

/-- The eight branches: taken exactly when the flag is as the mnemonic says, to the address of the next instruction
plus the operand as a signed byte; two cycles, three when taken to another page; no flag, no stack, no access
(45_control_flow.md R214 to R222). The costs and the wrap of the target are the spec's own choices,
92_eei_decisions.md D6, D16. -/
def Obligations.Branches : Prop :=
  ∀ (b : Byte) (s : State),
    let target : Word := BitVec.ofInt 16 (s.pc.toNat + (if b.toNat < 128 then (b.toNat : Int) else b.toNat - 256))
    let does (i : Instr) (cond : Bool) : Prop :=
      exec i s = .next { s with
        pc := if cond then target else s.pc
        waitCycles := s.waitCycles + 2 + if cond && decide (s.pc.toNat / 256 ≠ target.toNat / 256) then 1 else 0 }
    does (.bpl b) (!getFlag .N s.p) ∧ does (.bmi b) (getFlag .N s.p) ∧
    does (.bvc b) (!getFlag .V s.p) ∧ does (.bvs b) (getFlag .V s.p) ∧
    does (.bcc b) (!getFlag .C s.p) ∧ does (.bcs b) (getFlag .C s.p) ∧
    does (.bne b) (!getFlag .Z s.p) ∧ does (.beq b) (getFlag .Z s.p)

/-! ## System, flags, stack -/

/-- BRK, on any bus: the return address is the opcode's address plus 2 (PC is one past the opcode here), pushed high
byte first, then P with B and U set; I is set and nothing else of P; PC is read from `$FFFE`, low byte first; seven
cycles (46_system_flags_stack.md R230; that D is left alone is the spec's own choice, 92_eei_decisions.md D10). -/
def Obligations.BreakInstruction : Prop :=
  ∀ s : State,
    let d1 := busWrite s.devices (0x0100 ||| s.sp.setWidth 16) ((s.pc + 1).extractLsb' 8 8)
    let d2 := busWrite d1 (0x0100 ||| (s.sp - 1).setWidth 16) ((s.pc + 1).extractLsb' 0 8)
    let d3 := busWrite d2 (0x0100 ||| (s.sp - 2).setWidth 16) (s.p ||| 0x30)
    let lo := busRead d3 0xFFFE
    let hi := busRead lo.2 0xFFFF
    exec .brk s = .next { s with
      devices := hi.2, sp := s.sp - 3, p := s.p ||| 0x04, pc := mkWord hi.1 lo.1, waitCycles := s.waitCycles + 7 }

/-- NOP in all 28 encodings: nothing but the resolver's page-cross cycle and the base cycles; the location at the
effective address is not read (46_system_flags_stack.md R231, 47_undocumented.md R284; 92_eei_decisions.md D28). -/
def Obligations.NoOperation : Prop :=
  ∀ (b : Byte) (w : Word) (s : State),
    ∀ i ∈ ([.nopZp04 b, .nopAbs0C w, .nopZpx14 b, .nop1A, .nopAbx1C w, .nopZpx34 b, .nop3A, .nopAbx3C w,
        .nopZp44 b, .nopZpx54 b, .nop5A, .nopAbx5C w, .nopZp64 b, .nopZpx74 b, .nop7A, .nopAbx7C w, .nopImm80 b,
        .nopImm82 b, .nopImm89 b, .nopImmC2 b, .nopZpxD4 b, .nopDA, .nopAbxDC w, .nopImmE2 b, .nop, .nopZpxF4 b,
        .nopFA, .nopAbxFC w] : List Instr),
      exec i s = .next { s with
        waitCycles := s.waitCycles + i.row.cycles +
          if i.row.mode = .abx ∧ w.toNat / 256 ≠ (w.toNat + s.x.toNat) % 65536 / 256 then 1 else 0 }

/-- The seven flag instructions: encoding, the one bit of P, two cycles, nothing else (46_system_flags_stack.md R232
to R238). The encodings and cycles are those of 30_encoding.md R85. -/
def Obligations.FlagControl : Prop :=
  ∀ s : State,
    let done (p : Byte) : Host.Outcome State Fault Refusal :=
      .next { s with p := p, waitCycles := s.waitCycles + 2 }
    (encode .clc = [0x18] ∧ exec .clc s = done (s.p &&& 0b11111110)) ∧
    (encode .sec = [0x38] ∧ exec .sec s = done (s.p ||| 0b00000001)) ∧
    (encode .cli = [0x58] ∧ exec .cli s = done (s.p &&& 0b11111011)) ∧
    (encode .sei = [0x78] ∧ exec .sei s = done (s.p ||| 0b00000100)) ∧
    (encode .clv = [0xB8] ∧ exec .clv s = done (s.p &&& 0b10111111)) ∧
    (encode .cld = [0xD8] ∧ exec .cld s = done (s.p &&& 0b11110111)) ∧
    (encode .sed = [0xF8] ∧ exec .sed s = done (s.p ||| 0b00001000))

/-- PHA, PLA, PHP and PLP, on any bus (46_system_flags_stack.md R239 to R242; the byte is written before SP decreases
and read after it increases, the spec's own choice, 92_eei_decisions.md D12). -/
def Obligations.StackInstructions : Prop :=
  ∀ s : State,
    exec .pha s = .next { s with
      devices := busWrite s.devices (0x0100 ||| s.sp.setWidth 16) s.a, sp := s.sp - 1
      waitCycles := s.waitCycles + 3 } ∧
    exec .php s = .next { s with
      devices := busWrite s.devices (0x0100 ||| s.sp.setWidth 16) (s.p ||| 0x30), sp := s.sp - 1
      waitCycles := s.waitCycles + 3 } ∧
    (let v := busRead s.devices (0x0100 ||| (s.sp + 1).setWidth 16)
     exec .pla s = .next { s with
       devices := v.2, a := v.1, p := nzOf v.1 s.p, sp := s.sp + 1, waitCycles := s.waitCycles + 4 }) ∧
    (let v := busRead s.devices (0x0100 ||| (s.sp + 1).setWidth 16)
     exec .plp s = .next { s with
       devices := v.2, p := v.1 ||| 0x30, sp := s.sp + 1, waitCycles := s.waitCycles + 4 })

/-! ## Undocumented instructions -/

/-- The six compositions on memory, in every form: the accesses and results of the first instruction, then those of
the second on the same address (47_undocumented.md R260 to R265). INC and DEC read back once more where the parameter
says so, 92_eei_decisions.md D11. -/
def Obligations.MemoryCompositions : Prop :=
  ∀ (b : Byte) (w : Word) (s : State),
    let c := getFlag .C s.p
    let cin : Byte := if c then 1 else 0
    let decimal := getFlag .D s.p && !s.decimalDisabled
    let shifted (i : Instr) (f : Byte → Byte) : Byte × Byte × List Device :=
      let r := addressed i s
      let m := busRead r.2.devices r.1
      let v := busRead (busWrite m.2 r.1 (f m.1)) r.1
      let q := busRead v.2 r.1
      (m.1, q.1, q.2)
    let stepped (i : Instr) (f : Byte → Byte) : Byte × List Device :=
      let r := addressed i s
      let m := busRead r.2.devices r.1
      let d := busWrite m.2 r.1 (f m.1)
      busRead (match s.params.incdecNz with | .computed => d | .readback => (busRead d r.1).2) r.1
    (∀ i ∈ ([.sloIzx b, .sloZp b, .sloAbs w, .sloIzy b, .sloZpx b, .sloAby w, .sloAbx w] : List Instr),
      let m := shifted i (fun m => m <<< 1)
      let a := s.a ||| m.2.1
      exec i s = .next { (addressed i s).2 with
        devices := m.2.2, a := a, p := nzOf a (putFlag .C (m.1.getLsbD 7) s.p)
        waitCycles := (addressed i s).2.waitCycles + i.row.cycles }) ∧
    (∀ i ∈ ([.rlaIzx b, .rlaZp b, .rlaAbs w, .rlaIzy b, .rlaZpx b, .rlaAby w, .rlaAbx w] : List Instr),
      let m := shifted i (fun m => m <<< 1 ||| cin)
      let a := s.a &&& m.2.1
      exec i s = .next { (addressed i s).2 with
        devices := m.2.2, a := a, p := nzOf a (putFlag .C (m.1.getLsbD 7) s.p)
        waitCycles := (addressed i s).2.waitCycles + i.row.cycles }) ∧
    (∀ i ∈ ([.sreIzx b, .sreZp b, .sreAbs w, .sreIzy b, .sreZpx b, .sreAby w, .sreAbx w] : List Instr),
      let m := shifted i (fun m => m >>> 1)
      let a := s.a ^^^ m.2.1
      exec i s = .next { (addressed i s).2 with
        devices := m.2.2, a := a, p := nzOf a (putFlag .C (m.1.getLsbD 0) s.p)
        waitCycles := (addressed i s).2.waitCycles + i.row.cycles }) ∧
    (∀ i ∈ ([.rraIzx b, .rraZp b, .rraAbs w, .rraIzy b, .rraZpx b, .rraAby w, .rraAbx w] : List Instr),
      let m := shifted i (fun m => m >>> 1 ||| cin <<< 7)
      let out := m.1.getLsbD 0
      let o := if decimal then adcDecimal s.a m.2.1 out else adcBinary s.a m.2.1 out
      exec i s = .next { (addressed i s).2 with
        devices := m.2.2, a := o.r, p := o.flags s.p
        waitCycles := (addressed i s).2.waitCycles + i.row.cycles }) ∧
    (∀ i ∈ ([.dcpIzx b, .dcpZp b, .dcpAbs w, .dcpIzy b, .dcpZpx b, .dcpAby w, .dcpAbx w] : List Instr),
      let m := stepped i (fun m => m - 1)
      exec i s = .next { (addressed i s).2 with
        devices := m.2, p := compareOf s.a m.1 s.p
        waitCycles := (addressed i s).2.waitCycles + i.row.cycles }) ∧
    (∀ i ∈ ([.iscIzx b, .iscZp b, .iscAbs w, .iscIzy b, .iscZpx b, .iscAby w, .iscAbx w] : List Instr),
      let m := stepped i (fun m => m + 1)
      let o := if decimal then sbcDecimal s.a m.1 c else sbcBinary s.a m.1 c
      exec i s = .next { (addressed i s).2 with
        devices := m.2, a := o.r, p := o.flags s.p
        waitCycles := (addressed i s).2.waitCycles + i.row.cycles })

/-- ANC, ALR, ARR and AXS, whose operand is the byte at PC - 1 (the byte after the opcode), read again. ARR's binary
path: a rotation with the bit rotated out dropped, C from bit 6 and V from bit 6 against bit 5 of the result
(47_undocumented.md R268 to R273; the decimal path of ARR is the spec's own choice, 92_eei_decisions.md D14). -/
def Obligations.ImmediateCompositions : Prop :=
  ∀ (b : Byte) (s : State),
    let m := busRead s.devices (s.pc - 1)
    let t := s.a &&& m.1
    let c := getFlag .C s.p
    (∀ i ∈ ([.ancImm0B b, .ancImm2B b] : List Instr), exec i s = .next { s with
      devices := m.2, a := t, p := putFlag .C (t.getLsbD 7) (nzOf t s.p), waitCycles := s.waitCycles + 2 }) ∧
    exec (.alrImm b) s = .next { s with
      devices := m.2, a := t >>> 1, p := nzOf (t >>> 1) (putFlag .C (t.getLsbD 0) s.p)
      waitCycles := s.waitCycles + 2 } ∧
    (let o := if getFlag .D s.p && !s.decimalDisabled then arrDecimal t c else arrBinary t c
     exec (.arrImm b) s = .next { s with
       devices := m.2, a := o.r, p := o.flags s.p, waitCycles := s.waitCycles + 2 }) ∧
    exec (.axsImm b) s = .next { s with
      devices := m.2, x := (s.a &&& s.x) - m.1, p := compareOf (s.a &&& s.x) m.1 s.p
      waitCycles := s.waitCycles + 2 } ∧
    (let o := arrBinary t c
     o.r.toNat = t.toNat / 2 + 128 * bit c ∧ o.c = o.r.getLsbD 6 ∧ o.v = (o.r.getLsbD 6 ^^ o.r.getLsbD 5) ∧
     o.n = c ∧ (o.z = true ↔ o.r = 0))

/-- SHY and SHX: the register and the high byte of the base address plus one is written at the effective address,
whose high byte the value replaces on a page cross (47_undocumented.md R274, R275). What `high` is and what becomes of
the address is the spec's own choice, 92_eei_decisions.md D15, carried by the model as it stands
(notes/assumptions/2.md): on a page cross it is a statement about this model only, and no claim about a chip may rest
on it. -/
def Obligations.StoreHigh : Prop :=
  ∀ (w : Word) (s : State),
    let stored (reg : Byte) (ea : Word) : Word × Byte :=
      let v := reg &&& (w.extractLsb' 8 8 + 1)
      (if w.toNat / 256 = ea.toNat / 256 then ea else mkWord v (ea.extractLsb' 0 8), v)
    (let ea := w + s.x.setWidth 16
     let st := stored s.y ea
     exec (.shyAbx w) s = .next { s with
       devices := busWrite s.devices st.1 st.2
       waitCycles := s.waitCycles + 5 + if w.toNat / 256 = ea.toNat / 256 then 0 else 1 }) ∧
    (let ea := w + s.y.setWidth 16
     let st := stored s.x ea
     exec (.shxAby w) s = .next { s with
       devices := busWrite s.devices st.1 st.2
       waitCycles := s.waitCycles + 5 + if w.toNat / 256 = ea.toNat / 256 then 0 else 1 })

/-! ## Memory frames -/

/-- The instructions that store nothing: every address where RAM, ROM or nothing answers reads as before (20_memory.md
R64; the registers and flags are in `RegisterTable` and `FlagTable`). Which accesses an instruction makes is the
spec's own choice, 92_eei_decisions.md D28. -/
def Obligations.NonStoringFrame : Prop :=
  ∀ (i : Instr) (s t : State), exec i s = .next t →
    i.row.mnemonic ∉ ["STA", "STX", "STY", "SAX", "SHX", "SHY", "ASL", "LSR", "ROL", "ROR", "INC", "DEC", "SLO", "RLA",
      "SRE", "RRA", "DCP", "ISC", "PHA", "PHP", "JSR", "BRK"] →
    ∀ a : Word, settled s.devices a = true → t.peek a = s.peek a

/-- The instructions that store one byte at their effective address: every address outside that byte, where RAM, ROM
or nothing answers, reads as before (20_memory.md R64). Which accesses an instruction makes is the spec's own choice,
92_eei_decisions.md D28. -/
def Obligations.StoringFrame : Prop :=
  ∀ (i : Instr) (s t : State), exec i s = .next t →
    i.row.mnemonic ∈ ["STA", "STX", "STY", "SAX", "ASL", "LSR", "ROL", "ROR", "INC", "DEC", "SLO", "RLA", "SRE",
      "RRA", "DCP", "ISC"] →
    ∀ a : Word, settled s.devices a = true → s.apart (addressed i s).1 a → t.peek a = s.peek a

/-- The instructions that store elsewhere: SHX and SHY at the address `highAddress` computes, PHA and PHP at the stack
address, JSR at the two stack addresses, BRK at the three; every address outside those bytes, where RAM, ROM or
nothing answers, reads as before (20_memory.md R64; for SHX and SHY the model's choice, notes/assumptions/2.md). -/
def Obligations.OtherStoringFrame : Prop :=
  ∀ (w : Word) (s t : State) (a : Word), settled s.devices a = true →
    (exec (.shyAbx w) s = .next t →
      s.apart (highAddress s.params.shxyCross s.y s.x (addressed (.shyAbx w) s).1) a → t.peek a = s.peek a) ∧
    (exec (.shxAby w) s = .next t →
      s.apart (highAddress s.params.shxyCross s.x s.y (addressed (.shxAby w) s).1) a → t.peek a = s.peek a) ∧
    (exec .pha s = .next t ∨ exec .php s = .next t → s.apart (stackAddr s.sp) a → t.peek a = s.peek a) ∧
    (exec (.jsr w) s = .next t → s.apart (stackAddr s.sp) a → s.apart (stackAddr (s.sp - 1)) a →
      t.peek a = s.peek a) ∧
    (exec .brk s = .next t → s.apart (stackAddr s.sp) a → s.apart (stackAddr (s.sp - 1)) a →
      s.apart (stackAddr (s.sp - 2)) a → t.peek a = s.peek a)
end

