-- ==== Sys2Proof/Laws/Memory.lean ====
section
/-! SUPPORT. The laws of memory contents: a read after a write, and that a write keeps the canonical form. -/

namespace Sys2Proof

@[simp] theorem Memory.read_nil (i : Nat) : Memory.read [] i = Memory.unlisted := rfl

theorem Memory.read_cons (k : Nat) (v : Byte) (m : Memory) (i : Nat) :
    Memory.read ((k, v) :: m) i = if i = k then v else Memory.read m i := rfl

/-- A canonical memory whose indexes are all above `k` reads as unlisted at `k` and below. -/
theorem Memory.read_of_above {m : Memory} {k i : Nat} (hw : Memory.wf m = true) (ha : Memory.above k m = true)
    (hi : i ≤ k) : Memory.read m i = Memory.unlisted := by
  induction m generalizing k with
  | nil => rfl
  | cons c m ih =>
    obtain ⟨j, w⟩ := c
    simp only [Memory.wf, Memory.above, Bool.and_eq_true, decide_eq_true_eq] at hw ha
    rw [Memory.read_cons, if_neg (by omega)]
    exact ih hw.2 hw.1.2 (by omega)

theorem Memory.read_write_same {m : Memory} (hw : Memory.wf m = true) (i : Nat) (v : Byte) :
    Memory.read (Memory.write m i v) i = v := by
  induction m with
  | nil => by_cases h : v = Memory.unlisted <;> simp [Memory.write, Memory.read, h]
  | cons c m ih =>
    obtain ⟨k, w⟩ := c
    have hw' : (w ≠ Memory.unlisted ∧ Memory.above k m = true) ∧ Memory.wf m = true := by
      simpa [Memory.wf] using hw
    simp only [Memory.write]
    split
    · split
      · rename_i h1 h2
        rw [Memory.read_cons, if_neg (by omega), h2]
        exact Memory.read_of_above hw'.2 hw'.1.2 (by omega)
      · simp [Memory.read_cons]
    · split
      · split
        · rename_i h1 h2 h3
          subst h2; rw [h3]; exact Memory.read_of_above hw'.2 hw'.1.2 (le_refl _)
        · rename_i h2 _; simp [Memory.read_cons, h2]
      · rename_i h1 h2
        rw [Memory.read_cons, if_neg h2]; exact ih hw'.2

theorem Memory.read_write_ne {m : Memory} {i j : Nat} (h : j ≠ i) (v : Byte) :
    Memory.read (Memory.write m i v) j = Memory.read m j := by
  induction m with
  | nil => by_cases hv : v = Memory.unlisted <;> simp [Memory.write, Memory.read, hv, h]
  | cons c m ih =>
    obtain ⟨k, w⟩ := c
    simp only [Memory.write]
    split
    · split
      · rfl
      · rw [Memory.read_cons i, if_neg h]
    · split
      · rename_i h2
        subst h2
        split
        · rw [Memory.read_cons, if_neg h]
        · rw [Memory.read_cons, Memory.read_cons, if_neg h, if_neg h]
      · rw [Memory.read_cons, Memory.read_cons, ih]

/-- A write above `k` leaves every index above `k`. -/
theorem Memory.above_write {m : Memory} {k i : Nat} (hk : k < i) (hw : Memory.wf m = true)
    (ha : Memory.above k m = true) (v : Byte) : Memory.above k (Memory.write m i v) = true := by
  cases m with
  | nil => by_cases hv : v = Memory.unlisted <;> simp [Memory.write, Memory.above, hv, hk]
  | cons c m =>
    obtain ⟨j, w⟩ := c
    simp only [Memory.above, decide_eq_true_eq] at ha
    simp only [Memory.write]
    split
    · split <;> simp [Memory.above, ha, hk]
    · split
      · split
        · cases m with
          | nil => rfl
          | cons c m =>
            obtain ⟨l, u⟩ := c
            simp only [Memory.wf, Memory.above, Bool.and_eq_true, decide_eq_true_eq] at hw ⊢
            omega
        · simp [Memory.above, ha]
      · simp [Memory.above, ha]

theorem Memory.write_wf {m : Memory} (hw : Memory.wf m = true) (i : Nat) (v : Byte) :
    Memory.wf (Memory.write m i v) = true := by
  induction m with
  | nil => by_cases hv : v = Memory.unlisted <;> simp [Memory.write, Memory.wf, Memory.above, hv]
  | cons c m ih =>
    obtain ⟨k, w⟩ := c
    have hw' : (w ≠ Memory.unlisted ∧ Memory.above k m = true) ∧ Memory.wf m = true := by
      simpa [Memory.wf] using hw
    simp only [Memory.write]
    split
    · split
      · exact hw
      · rename_i h1 h2
        simp only [Memory.wf, Memory.above, Bool.and_eq_true, decide_eq_true_eq]
        exact ⟨⟨h2, h1⟩, ⟨hw'.1, hw'.2⟩⟩
    · split
      · split
        · exact hw'.2
        · rename_i h3
          simp only [Memory.wf, Bool.and_eq_true, decide_eq_true_eq]
          exact ⟨⟨h3, hw'.1.2⟩, hw'.2⟩
      · simp only [Memory.wf, Bool.and_eq_true, decide_eq_true_eq]
        exact ⟨⟨hw'.1.1, Memory.above_write (by omega) hw'.2 hw'.1.2 v⟩, ih hw'.2⟩

theorem Memory.write_below {m : Memory} {size i : Nat} (hb : Memory.below size m = true) (hi : i < size) (v : Byte) :
    Memory.below size (Memory.write m i v) = true := by
  induction m with
  | nil => by_cases hv : v = Memory.unlisted <;> simp [Memory.write, Memory.below, hv, hi]
  | cons c m ih =>
    obtain ⟨k, w⟩ := c
    simp only [Memory.below, List.all_cons, Bool.and_eq_true, decide_eq_true_eq] at hb ih ⊢
    simp only [Memory.write]
    split
    · split <;> simp [hb.1, hi, List.all_eq_true] <;> simpa [List.all_eq_true] using hb.2
    · split
      · split
        · exact hb.2
        · simp only [List.all_cons, Bool.and_eq_true, decide_eq_true_eq]; exact hb
      · simp only [List.all_cons, Bool.and_eq_true, decide_eq_true_eq]; exact ⟨hb.1, ih hb.2⟩

end Sys2Proof
end

