-- ==== Sys2Proof/Laws/Bus.lean ====
section
/-! SUPPORT. The laws of devices and of the address decoder. `Accessed` says once what any run of bus accesses can do to
the device table; what it keeps is proved here, and every operation of the machine is shown to be such a run. -/

namespace Sys2Proof

/-- `ds'` comes from `ds` by bus reads and writes, and by foreign devices changing their own state. -/
inductive Accessed : List Device → List Device → Prop where
  | refl (ds : List Device) : Accessed ds ds
  | read {ds ds' : List Device} (h : Accessed ds ds') (a : Word) : Accessed ds (busRead ds' a).2
  | write {ds ds' : List Device} (h : Accessed ds ds') (a : Word) (v : Byte) : Accessed ds (busWrite ds' a v)
  | own {ds ds' : List Device} (h : Accessed ds ds') (n : Nat) (st : List Byte) : Accessed ds (busAdopt ds' n st)

theorem Accessed.trans {ds es fs : List Device} (h : Accessed ds es) (h' : Accessed es fs) : Accessed ds fs := by
  induction h' with
  | refl => exact h
  | read _ a ih => exact ih.read a
  | write _ a v ih => exact ih.write a v
  | own _ n st ih => exact ih.own n st

theorem Store.read_plain {d : Device} (h : d.plain = true) (off : Nat) : (d.store.read off).2 = d.store := by
  obtain ⟨f, l, st⟩ := d
  cases st <;> first | rfl | simp [Device.plain] at h

/-- On a bus of RAM and ROM a read leaves the device table as it was (20_memory.md R66). -/
theorem busRead_plain {ds : List Device} (h : ds.all Device.plain = true) (a : Word) : (busRead ds a).2 = ds := by
  induction ds with
  | nil => rfl
  | cons d ds ih =>
    simp only [List.all_cons, Bool.and_eq_true] at h
    simp only [busRead]
    split
    · simp [Store.read_plain h.1]
    · simp [ih h.2]

theorem busWrite_plain {ds : List Device} (h : ds.all Device.plain = true) (a : Word) (v : Byte) :
    (busWrite ds a v).all Device.plain = true := by
  induction ds with
  | nil => rfl
  | cons d ds ih =>
    simp only [List.all_cons, Bool.and_eq_true] at h
    simp only [busWrite]
    split
    · obtain ⟨f, l, st⟩ := d
      cases st <;> simp_all [Device.plain, Store.write]
    · simp [h.1, ih h.2]

theorem Store.read_contentsOk (st : Store) (off : Nat) : (st.read off).2.contentsOk = st.contentsOk := by
  cases st <;> rfl

theorem Store.read_sizeOk (st : Store) (off : Nat) : (st.read off).2.sizeOk = st.sizeOk := by cases st <;> rfl
theorem Store.write_sizeOk (st : Store) (off : Nat) (v : Byte) : (st.write off v).sizeOk = st.sizeOk := by
  cases st <;> rfl
theorem Store.fill_sizeOk (st : Store) (off : Nat) (v : Byte) : (st.fill off v).sizeOk = st.sizeOk := by
  cases st <;> rfl

theorem Store.write_contentsOk {st : Store} (h : st.contentsOk = true) (hs : st.sizeOk = true) (off : Nat) (v : Byte) :
    (st.write off v).contentsOk = true := by
  cases st with
  | ram size m =>
    simp only [Store.contentsOk, Store.sizeOk, Store.write, Bool.and_eq_true, decide_eq_true_eq] at h hs ⊢
    exact ⟨Memory.write_wf h.1 _ v, Memory.write_below h.2 (Nat.mod_lt _ (by omega)) v⟩
  | rom size m => exact h
  | foreign id st => rfl

theorem Store.fill_contentsOk {st : Store} (h : st.contentsOk = true) (hs : st.sizeOk = true) (off : Nat) (v : Byte) :
    (st.fill off v).contentsOk = true := by
  cases st with
  | ram size m => exact Store.write_contentsOk (st := .ram size m) h hs off v
  | rom size m => exact Store.write_contentsOk (st := .ram size m) h hs off v
  | foreign id st => rfl

/-- A device after an access is well formed if its store still is. -/
theorem Device.ok_with {d : Device} {st : Store} (hw : d.windowOk = true) (hs : st.sizeOk = true)
    (hc : st.contentsOk = true) : ({ d with store := st } : Device).ok = true := by
  simp only [Device.ok, Bool.and_eq_true]; exact ⟨⟨hw, hs⟩, hc⟩

theorem Device.ok_iff {d : Device} :
    d.ok = true ↔ (d.windowOk = true ∧ d.store.sizeOk = true) ∧ d.store.contentsOk = true := by
  simp [Device.ok]

theorem busRead_ok {ds : List Device} (h : devicesOk ds = true) (a : Word) : devicesOk (busRead ds a).2 = true := by
  induction ds with
  | nil => rfl
  | cons d ds ih =>
    simp only [devicesOk, List.all_cons, Bool.and_eq_true] at h ih ⊢
    simp only [busRead]
    split
    · have hd := Device.ok_iff.mp h.1
      simp only [List.all_cons, Bool.and_eq_true]
      exact ⟨Device.ok_with hd.1.1 ((Store.read_sizeOk _ _).trans hd.1.2) ((Store.read_contentsOk _ _).trans hd.2), h.2⟩
    · simp only [List.all_cons, Bool.and_eq_true]; exact ⟨h.1, ih h.2⟩

theorem busWrite_ok {ds : List Device} (h : devicesOk ds = true) (a : Word) (v : Byte) :
    devicesOk (busWrite ds a v) = true := by
  induction ds with
  | nil => rfl
  | cons d ds ih =>
    simp only [devicesOk, List.all_cons, Bool.and_eq_true] at h ih ⊢
    simp only [busWrite]
    split
    · have hd := Device.ok_iff.mp h.1
      simp only [List.all_cons, Bool.and_eq_true]
      exact ⟨Device.ok_with hd.1.1 ((Store.write_sizeOk _ _ _).trans hd.1.2) (Store.write_contentsOk hd.2 hd.1.2 _ v), h.2⟩
    · simp only [List.all_cons, Bool.and_eq_true]; exact ⟨h.1, ih h.2⟩

theorem busFill_ok {ds : List Device} (h : devicesOk ds = true) (a : Word) (v : Byte) :
    devicesOk (busFill ds a v) = true := by
  induction ds with
  | nil => rfl
  | cons d ds ih =>
    simp only [devicesOk, List.all_cons, Bool.and_eq_true] at h ih ⊢
    simp only [busFill]
    split
    · have hd := Device.ok_iff.mp h.1
      simp only [List.all_cons, Bool.and_eq_true]
      exact ⟨Device.ok_with hd.1.1 ((Store.fill_sizeOk _ _ _).trans hd.1.2) (Store.fill_contentsOk hd.2 hd.1.2 _ v), h.2⟩
    · simp only [List.all_cons, Bool.and_eq_true]; exact ⟨h.1, ih h.2⟩

theorem busRead_fixedPart (ds : List Device) (a : Word) :
    (busRead ds a).2.map Device.fixedPart = ds.map Device.fixedPart := by
  induction ds with
  | nil => rfl
  | cons d ds ih =>
    simp only [busRead]
    split
    · obtain ⟨f, l, st⟩ := d
      cases st <;> rfl
    · simp [ih]

theorem busWrite_fixedPart (ds : List Device) (a : Word) (v : Byte) :
    (busWrite ds a v).map Device.fixedPart = ds.map Device.fixedPart := by
  induction ds with
  | nil => rfl
  | cons d ds ih =>
    simp only [busWrite]
    split
    · obtain ⟨f, l, st⟩ := d
      cases st <;> rfl
    · simp [ih]

theorem busAdopt_ok {ds : List Device} (h : devicesOk ds = true) (n : Nat) (st : List Byte) :
    devicesOk (busAdopt ds n st) = true := by
  induction ds generalizing n with
  | nil => rfl
  | cons d ds ih =>
    simp only [devicesOk, List.all_cons, Bool.and_eq_true] at h ih
    cases n with
    | zero =>
      obtain ⟨f, l, s⟩ := d
      simp only [busAdopt, devicesOk, List.all_cons, Bool.and_eq_true]
      exact ⟨by cases s <;> exact h.1, h.2⟩
    | succ n => simp only [busAdopt, devicesOk, List.all_cons, Bool.and_eq_true]; exact ⟨h.1, ih h.2 n⟩

theorem busAdopt_fixedPart (ds : List Device) (n : Nat) (st : List Byte) :
    (busAdopt ds n st).map Device.fixedPart = ds.map Device.fixedPart := by
  induction ds generalizing n with
  | nil => rfl
  | cons d ds ih =>
    cases n with
    | zero =>
      obtain ⟨f, l, s⟩ := d
      cases s <;> rfl
    | succ n => simp [busAdopt, ih]

/-- On a bus of RAM and ROM no device has a state of its own to change. -/
theorem busAdopt_plain {ds : List Device} (h : ds.all Device.plain = true) (n : Nat) (st : List Byte) :
    busAdopt ds n st = ds := by
  induction ds generalizing n with
  | nil => rfl
  | cons d ds ih =>
    simp only [List.all_cons, Bool.and_eq_true] at h
    cases n with
    | zero =>
      obtain ⟨f, l, s⟩ := d
      cases s <;> first | rfl | simp [Device.plain] at h
    | succ n => simp [busAdopt, ih h.2]

theorem Accessed.ok {ds ds' : List Device} (h : Accessed ds ds') (hd : devicesOk ds = true) :
    devicesOk ds' = true := by
  induction h with
  | refl => exact hd
  | read _ a ih => exact busRead_ok ih a
  | write _ a v ih => exact busWrite_ok ih a v
  | own _ n st ih => exact busAdopt_ok ih n st

theorem Accessed.fixedPart {ds ds' : List Device} (h : Accessed ds ds') :
    ds'.map Device.fixedPart = ds.map Device.fixedPart := by
  induction h with
  | refl => rfl
  | read _ a ih => rw [busRead_fixedPart, ih]
  | write _ a v ih => rw [busWrite_fixedPart, ih]
  | own _ n st ih => rw [busAdopt_fixedPart, ih]

theorem Accessed.plain {ds ds' : List Device} (h : Accessed ds ds') (hd : ds.all Device.plain = true) :
    ds'.all Device.plain = true := by
  induction h with
  | refl => exact hd
  | read _ a ih => rw [busRead_plain ih]; exact ih
  | write _ a v ih => exact busWrite_plain ih a v
  | own _ n st ih => rw [busAdopt_plain ih]; exact ih

end Sys2Proof
end

