-- ==== Sys2Proof/Laws/Cells.lean ====
section
/-! SUPPORT. The laws of storage cells: bus accesses do not move cells, a read leaves every settled address as it reads, a
write changes the reads of its own cell only, and a RAM gives back what was written. -/

namespace Sys2Proof

theorem Store.read_slot (st : Store) (off off' : Nat) : (st.read off).2.slot off' = st.slot off' := by cases st <;> rfl
theorem Store.write_slot (st : Store) (off off' : Nat) (v : Byte) : (st.write off v).slot off' = st.slot off' := by
  cases st <;> rfl

theorem Store.read_isRam (st : Store) (off : Nat) : (st.read off).2.isRam = st.isRam := by cases st <;> rfl
theorem Store.write_isRam (st : Store) (off : Nat) (v : Byte) : (st.write off v).isRam = st.isRam := by
  cases st <;> rfl

/-- A window as numbers (20_memory.md R52). -/
theorem Device.covers_iff (d : Device) (a : Word) :
    d.covers a = true ↔ d.first.toNat ≤ a.toNat ∧ a.toNat ≤ d.last.toNat := by
  simp [Device.covers, BitVec.le_def]

/-- A window does not depend on the contents behind it. -/
theorem Device.covers_with (d : Device) (st : Store) (a : Word) :
    ({ d with store := st } : Device).covers a = d.covers a := rfl
theorem Device.offset_with (d : Device) (st : Store) (a : Word) :
    ({ d with store := st } : Device).offset a = d.offset a := rfl

@[simp] theorem cellOf_busRead (ds : List Device) (a b : Word) : cellOf (busRead ds a).2 b = cellOf ds b := by
  induction ds with
  | nil => rfl
  | cons d ds ih =>
    simp only [busRead]
    split <;> simp [cellOf, Device.covers_with, Device.offset_with, Store.read_slot, ih]

@[simp] theorem cellOf_busWrite (ds : List Device) (a b : Word) (v : Byte) :
    cellOf (busWrite ds a v) b = cellOf ds b := by
  induction ds with
  | nil => rfl
  | cons d ds ih =>
    simp only [busWrite]
    split <;> simp [cellOf, Device.covers_with, Device.offset_with, Store.write_slot, ih]

theorem Device.plain_read (d : Device) (off : Nat) : ({ d with store := (d.store.read off).2 } : Device).plain = d.plain := by
  obtain ⟨f, l, st⟩ := d
  cases st <;> rfl
theorem Device.plain_write (d : Device) (off : Nat) (v : Byte) :
    ({ d with store := d.store.write off v } : Device).plain = d.plain := by
  obtain ⟨f, l, st⟩ := d
  cases st <;> rfl

@[simp] theorem settled_busRead (ds : List Device) (a b : Word) : settled (busRead ds a).2 b = settled ds b := by
  induction ds with
  | nil => rfl
  | cons d ds ih =>
    simp only [busRead]
    split <;> simp [settled, Device.covers_with, Device.plain_read, ih]

@[simp] theorem settled_busWrite (ds : List Device) (a b : Word) (v : Byte) :
    settled (busWrite ds a v) b = settled ds b := by
  induction ds with
  | nil => rfl
  | cons d ds ih =>
    simp only [busWrite]
    split <;> simp [settled, Device.covers_with, Device.plain_write, ih]

@[simp] theorem backed_busRead (ds : List Device) (a b : Word) : backed (busRead ds a).2 b = backed ds b := by
  induction ds with
  | nil => rfl
  | cons d ds ih =>
    simp only [busRead]
    split <;> simp [backed, Device.covers_with, Store.read_isRam, ih]

@[simp] theorem backed_busWrite (ds : List Device) (a b : Word) (v : Byte) :
    backed (busWrite ds a v) b = backed ds b := by
  induction ds with
  | nil => rfl
  | cons d ds ih =>
    simp only [busWrite]
    split <;> simp [backed, Device.covers_with, Store.write_isRam, ih]

/-- A write to a RAM or ROM leaves every other byte of its buffer (20_memory.md R56, R57). -/
theorem Store.read_write_apart {d : Device} (h : d.plain = true) {off off' : Nat}
    (hne : d.store.slot off' ≠ d.store.slot off) (v : Byte) :
    ((d.store.write off v).read off').1 = (d.store.read off').1 := by
  obtain ⟨f, l, st⟩ := d
  cases st with
  | ram size m => exact Memory.read_write_ne hne v
  | rom size m => rfl
  | foreign id st => simp [Device.plain] at h

/-- A RAM gives back the byte written, at every offset of the same byte of its buffer (20_memory.md R56). -/
theorem Store.read_write_slot {st : Store} (h : st.isRam = true) (hok : st.contentsOk = true) {off off' : Nat}
    (he : st.slot off = st.slot off') (v : Byte) : ((st.write off v).read off').1 = v := by
  cases st with
  | ram size m =>
    simp only [Store.contentsOk, Bool.and_eq_true] at hok
    simp only [Store.slot] at he
    simp only [Store.write, Store.read, he]
    exact Memory.read_write_same hok.1 _ v
  | rom size m => simp [Store.isRam] at h
  | foreign id st => simp [Store.isRam] at h

@[simp] theorem cellOf_busAdopt (ds : List Device) (n : Nat) (st : List Byte) (b : Word) :
    cellOf (busAdopt ds n st) b = cellOf ds b := by
  induction ds generalizing n with
  | nil => rfl
  | cons d ds ih =>
    cases n with
    | zero =>
      obtain ⟨f, l, s⟩ := d
      cases s <;> rfl
    | succ n => simp [busAdopt, cellOf, ih]

@[simp] theorem settled_busAdopt (ds : List Device) (n : Nat) (st : List Byte) (b : Word) :
    settled (busAdopt ds n st) b = settled ds b := by
  induction ds generalizing n with
  | nil => rfl
  | cons d ds ih =>
    cases n with
    | zero =>
      obtain ⟨f, l, s⟩ := d
      cases s <;> rfl
    | succ n => simp [busAdopt, settled, ih]

theorem cellOf_accessed {ds es : List Device} (h : Accessed ds es) (b : Word) : cellOf es b = cellOf ds b := by
  induction h with
  | refl => rfl
  | read _ a ih => rw [cellOf_busRead, ih]
  | write _ a v ih => rw [cellOf_busWrite, ih]
  | own _ n st ih => rw [cellOf_busAdopt, ih]

theorem settled_accessed {ds es : List Device} (h : Accessed ds es) (b : Word) : settled es b = settled ds b := by
  induction h with
  | refl => rfl
  | read _ a ih => rw [settled_busRead, ih]
  | write _ a v ih => rw [settled_busWrite, ih]
  | own _ n st ih => rw [settled_busAdopt, ih]

/-- An address on a bus of RAM and ROM is settled. -/
theorem settled_of_plain {ds : List Device} (h : ds.all Device.plain = true) (b : Word) : settled ds b = true := by
  induction ds with
  | nil => rfl
  | cons d ds ih =>
    simp only [List.all_cons, Bool.and_eq_true] at h
    simp [settled, h.1, ih h.2]

/-- A read leaves what every settled address reads as. -/
theorem busRead_busRead {ds : List Device} {b : Word} (h : settled ds b = true) (a : Word) :
    (busRead (busRead ds a).2 b).1 = (busRead ds b).1 := by
  induction ds with
  | nil => rfl
  | cons d ds ih =>
    by_cases ha : d.covers a = true <;> by_cases hb : d.covers b = true
    · have hp : d.plain = true := by simpa [settled, hb] using h
      simp [busRead, ha, hb, Store.read_plain hp]
    · simp [busRead, ha, hb, Device.covers_with]
    · simp [busRead, ha, hb]
    · simp [busRead, ha, hb, ih (by simpa [settled, hb] using h)]

/-- A write leaves what every settled address outside the cell written reads as. -/
theorem busRead_busWrite_apart {ds : List Device} {a b : Word} (h : settled ds b = true)
    (hc : cellOf ds b = none ∨ cellOf ds a ≠ cellOf ds b) (v : Byte) :
    (busRead (busWrite ds a v) b).1 = (busRead ds b).1 := by
  induction ds with
  | nil => rfl
  | cons d ds ih =>
    by_cases ha : d.covers a = true <;> by_cases hb : d.covers b = true
    · have hne : d.store.slot (d.offset b) ≠ d.store.slot (d.offset a) := by
        simpa [cellOf, ha, hb, eq_comm] using hc
      have hp : d.plain = true := by simpa [settled, hb] using h
      simp [busWrite, busRead, ha, hb, Device.covers_with, Device.offset_with, Store.read_write_apart hp hne]
    · simp [busWrite, busRead, ha, hb, Device.covers_with]
    · simp [busWrite, busRead, ha, hb]
    · have hs : settled ds b = true := by simpa [settled, hb] using h
      have hc' : cellOf ds b = none ∨ cellOf ds a ≠ cellOf ds b := by
        rcases hc with hc | hc
        · left; simpa [cellOf, hb] using hc
        · right
          intro heq
          exact hc (by simp [cellOf, ha, hb, heq])
      simp [busWrite, busRead, ha, hb, ih hs hc']

/-- A RAM gives back the byte written to the cell of the address read. -/
theorem busRead_busWrite_backed {ds : List Device} {a b : Word} (hd : devicesOk ds = true) (h : backed ds b = true)
    (hc : cellOf ds a = cellOf ds b) (v : Byte) : (busRead (busWrite ds a v) b).1 = v := by
  induction ds with
  | nil => simp [backed] at h
  | cons d ds ih =>
    simp only [devicesOk, List.all_cons, Bool.and_eq_true] at hd
    by_cases ha : d.covers a = true <;> by_cases hb : d.covers b = true
    · have he : d.store.slot (d.offset a) = d.store.slot (d.offset b) := by
        simpa [cellOf, ha, hb] using hc
      have hok := (Device.ok_iff.mp hd.1).2
      have hr : d.store.isRam = true := by simpa [backed, hb] using h
      simp [busWrite, busRead, ha, hb, Device.covers_with, Device.offset_with, Store.read_write_slot hr hok he]
    · exfalso
      simp only [cellOf, ha, hb, if_true, if_false, Bool.false_eq_true] at hc
      cases hx : cellOf ds b with
      | none => rw [hx] at hc; simp at hc
      | some c => rw [hx] at hc; simp at hc
    · exfalso
      simp only [cellOf, ha, hb, if_true, if_false, Bool.false_eq_true] at hc
      cases hx : cellOf ds a with
      | none => rw [hx] at hc; simp at hc
      | some c => rw [hx] at hc; simp at hc
    · have hb' : backed ds b = true := by simpa [backed, hb] using h
      have hc' : cellOf ds a = cellOf ds b := by
        simp only [cellOf, ha, hb, if_false, Bool.false_eq_true] at hc
        cases hx : cellOf ds a with
        | none =>
          cases hy : cellOf ds b with
          | none => rfl
          | some c => rw [hx, hy] at hc; simp at hc
        | some c =>
          cases hy : cellOf ds b with
          | none => rw [hx, hy] at hc; simp at hc
          | some e =>
            rw [hx, hy] at hc
            simp only [Option.map_some, Option.some.injEq, Prod.mk.injEq, Nat.add_right_cancel_iff] at hc
            exact congrArg some (Prod.ext hc.1 hc.2)
      simp [busWrite, busRead, ha, hb, ih hd.2 hb' hc']

end Sys2Proof
end

