-- ==== Sys2Proof/Laws/Decode.lean ====
section
/-! SUPPORT. The laws of the opcode matrix: which row, operand and bytes an opcode byte stands for, each shown once for all
256 opcodes, so that a goal about decoding splits on the operand-byte count and not on the opcode. -/

namespace Sys2Proof

/-- The instruction an opcode stands for uses only the operand bytes its mode takes (30_encoding.md R81, R82). -/
theorem instrOf_unused (op b : Byte) (w : Word) :
    (operandCount op = 0 → instrOf op b w = instrOf op 0 0) ∧
      (operandCount op = 1 → instrOf op b w = instrOf op b 0) ∧
        (operandCount op = 2 → instrOf op b w = instrOf op 0 w) := by
  obtain ⟨n, hn, rfl⟩ : ∃ n, n < 256 ∧ op = BitVec.ofNat 8 n := ⟨op.toNat, op.isLt, by simp⟩
  interval_cases n <;>
    exact ⟨fun h => by first | rfl | exact absurd h (by decide), fun h => by first | rfl | exact absurd h (by decide),
      fun h => by first | rfl | exact absurd h (by decide)⟩

/-- The decoder takes as many operand bytes as the row's mode. -/
theorem operandCount_row (i : Instr) : operandCount i.row.opcode = i.row.mode.operandBytes := by
  cases i <;> (simp only [Instr.row]; rfl)

/-- An instruction is what its opcode and its operand stand for. -/
theorem instrOf_row (i : Instr) : instrOf i.row.opcode (loByte i.operand) i.operand = i := by
  cases i <;> simp only [Instr.row, Instr.operand, loByte_zext16] <;> rfl

/-- A mode takes 0, 1 or 2 operand bytes. -/
theorem operandBytes_le (m : Mode) : m.operandBytes = 0 ∨ m.operandBytes = 1 ∨ m.operandBytes = 2 := by
  cases m <;> simp [Mode.operandBytes]

/-- The row of what an opcode stands for is that opcode's, whatever the operand bytes (30_encoding.md R81). -/
theorem opcode_row (op b : Byte) (w : Word) :
    (instrOf op b w).row.opcode = op ∧ (instrOf op b w).row = (instrOf op 0 0).row := by
  obtain ⟨n, hn, rfl⟩ : ∃ n, n < 256 ∧ op = BitVec.ofNat 8 n := ⟨op.toNat, op.isLt, by simp⟩
  interval_cases n <;> exact ⟨rfl, rfl⟩

/-- The operand of what an opcode stands for. -/
theorem operand_instrOf (op b : Byte) (w : Word) :
    (operandCount op = 1 → (instrOf op b w).operand = zext16 b) ∧
      (operandCount op = 2 → (instrOf op b w).operand = w) := by
  obtain ⟨n, hn, rfl⟩ : ∃ n, n < 256 ∧ op = BitVec.ofNat 8 n := ⟨op.toNat, op.isLt, by simp⟩
  interval_cases n <;>
    exact ⟨fun h => by first | rfl | exact absurd h (by decide), fun h => by first | rfl | exact absurd h (by decide)⟩

/-- The bytes of what an opcode stands for. -/
theorem encode_instrOf (op b : Byte) (w : Word) :
    encode (instrOf op b w) = match operandCount op with
      | 0 => [op]
      | 1 => [op, b]
      | _ => [op, loByte w, hiByte w] := by
  have h1 := opcode_row op b w
  have h2 := operand_instrOf op b w
  have h3 : (instrOf op b w).row.mode.operandBytes = operandCount op := by rw [h1.2]; rfl
  rcases operandBytes_le (instrOf op b w).row.mode with hm | hm | hm <;>
    simp only [encode, hm, ← h3, h1.1]
  · rw [h2.1 (by rw [← h3, hm]), loByte_zext16]
  · rw [h2.2 (by rw [← h3, hm])]

end Sys2Proof
end

