-- ==== Sys2Proof/Laws/Flags.lean ====
section
/-! SUPPORT. The laws of the status byte: a flag read after a flag write, and what the flag computations leave alone. -/

namespace Sys2Proof.Machine

/-- One flag written, every flag read (00_scope.md R10). -/
@[simp] theorem getFlag_putFlag (f g : Flag) (b : Bool) (p : Byte) :
    getFlag g (putFlag f b p) = if g = f then b else getFlag g p := by
  cases f <;> cases g <;> cases b <;> simp [getFlag, putFlag, Flag.mask, Flag.bit]

/-- The flags of `set_nz` (40_step_and_addressing.md R121). -/
theorem getFlag_nzOf (v p : Byte) (g : Flag) :
    getFlag g (nzOf v p) = if g = .Z then v == 0 else if g = .N then v.getLsbD 7 else getFlag g p := by
  simp [nzOf]

/-- The flags of ADC, SBC and ARR (10_state.md R33). -/
theorem getFlag_alu (o : Alu) (p : Byte) (g : Flag) :
    getFlag g (o.flags p) =
      if g = .N then o.n else if g = .V then o.v else if g = .Z then o.z else if g = .C then o.c else getFlag g p := by
  simp [Alu.flags]

/-- A pulled status has B and U set and the other six flags as pulled (46 R242). -/
theorem getFlag_pulledStatus (v : Byte) (g : Flag) :
    getFlag g (pulledStatus v) = if g = .B ∨ g = .U then true else getFlag g v := by
  cases g <;> simp [getFlag, pulledStatus, Flag.bit]

/-- Two status bytes with the same flags are the same byte. -/
theorem status_ext {p q : Byte} (h : ∀ f, getFlag f p = getFlag f q) : p = q := by
  apply BitVec.eq_of_getLsbD_eq
  intro i hi
  have : i = 0 ∨ i = 1 ∨ i = 2 ∨ i = 3 ∨ i = 4 ∨ i = 5 ∨ i = 6 ∨ i = 7 := by omega
  rcases this with rfl | rfl | rfl | rfl | rfl | rfl | rfl | rfl
  exacts [h .C, h .Z, h .I, h .D, h .B, h .U, h .V, h .N]

end Sys2Proof.Machine
end

