-- ==== Sys2Proof/Laws/State.lean ====
section
/-! SUPPORT. Beside State: what each field is after each named update, one lemma a field and an update, true by rfl (for a composite
operation, by the lemmas of its parts), so
that no proof unfolds an update. -/

namespace Sys2Proof.Machine

variable (s : State)

@[simp] theorem State.setA_a (v : Byte) : (s.setA v).a = v := rfl
@[simp] theorem State.setA_x (v : Byte) : (s.setA v).x = s.x := rfl
@[simp] theorem State.setA_y (v : Byte) : (s.setA v).y = s.y := rfl
@[simp] theorem State.setA_sp (v : Byte) : (s.setA v).sp = s.sp := rfl
@[simp] theorem State.setA_p (v : Byte) : (s.setA v).p = s.p := rfl
@[simp] theorem State.setA_pc (v : Byte) : (s.setA v).pc = s.pc := rfl
@[simp] theorem State.setA_waitCycles (v : Byte) : (s.setA v).waitCycles = s.waitCycles := rfl
@[simp] theorem State.setA_pendingIrq (v : Byte) : (s.setA v).pendingIrq = s.pendingIrq := rfl
@[simp] theorem State.setA_pendingNmi (v : Byte) : (s.setA v).pendingNmi = s.pendingNmi := rfl
@[simp] theorem State.setA_decimalDisabled (v : Byte) : (s.setA v).decimalDisabled = s.decimalDisabled := rfl
@[simp] theorem State.setA_debugOn (v : Byte) : (s.setA v).debugOn = s.debugOn := rfl
@[simp] theorem State.setA_params (v : Byte) : (s.setA v).params = s.params := rfl
@[simp] theorem State.setA_devices (v : Byte) : (s.setA v).devices = s.devices := rfl
@[simp] theorem State.setA_tickers (v : Byte) : (s.setA v).tickers = s.tickers := rfl
@[simp] theorem State.setA_tickCount (v : Byte) : (s.setA v).tickCount = s.tickCount := rfl
@[simp] theorem State.setA_trace (v : Byte) : (s.setA v).trace = s.trace := rfl

@[simp] theorem State.setX_a (v : Byte) : (s.setX v).a = s.a := rfl
@[simp] theorem State.setX_x (v : Byte) : (s.setX v).x = v := rfl
@[simp] theorem State.setX_y (v : Byte) : (s.setX v).y = s.y := rfl
@[simp] theorem State.setX_sp (v : Byte) : (s.setX v).sp = s.sp := rfl
@[simp] theorem State.setX_p (v : Byte) : (s.setX v).p = s.p := rfl
@[simp] theorem State.setX_pc (v : Byte) : (s.setX v).pc = s.pc := rfl
@[simp] theorem State.setX_waitCycles (v : Byte) : (s.setX v).waitCycles = s.waitCycles := rfl
@[simp] theorem State.setX_pendingIrq (v : Byte) : (s.setX v).pendingIrq = s.pendingIrq := rfl
@[simp] theorem State.setX_pendingNmi (v : Byte) : (s.setX v).pendingNmi = s.pendingNmi := rfl
@[simp] theorem State.setX_decimalDisabled (v : Byte) : (s.setX v).decimalDisabled = s.decimalDisabled := rfl
@[simp] theorem State.setX_debugOn (v : Byte) : (s.setX v).debugOn = s.debugOn := rfl
@[simp] theorem State.setX_params (v : Byte) : (s.setX v).params = s.params := rfl
@[simp] theorem State.setX_devices (v : Byte) : (s.setX v).devices = s.devices := rfl
@[simp] theorem State.setX_tickers (v : Byte) : (s.setX v).tickers = s.tickers := rfl
@[simp] theorem State.setX_tickCount (v : Byte) : (s.setX v).tickCount = s.tickCount := rfl
@[simp] theorem State.setX_trace (v : Byte) : (s.setX v).trace = s.trace := rfl

@[simp] theorem State.setY_a (v : Byte) : (s.setY v).a = s.a := rfl
@[simp] theorem State.setY_x (v : Byte) : (s.setY v).x = s.x := rfl
@[simp] theorem State.setY_y (v : Byte) : (s.setY v).y = v := rfl
@[simp] theorem State.setY_sp (v : Byte) : (s.setY v).sp = s.sp := rfl
@[simp] theorem State.setY_p (v : Byte) : (s.setY v).p = s.p := rfl
@[simp] theorem State.setY_pc (v : Byte) : (s.setY v).pc = s.pc := rfl
@[simp] theorem State.setY_waitCycles (v : Byte) : (s.setY v).waitCycles = s.waitCycles := rfl
@[simp] theorem State.setY_pendingIrq (v : Byte) : (s.setY v).pendingIrq = s.pendingIrq := rfl
@[simp] theorem State.setY_pendingNmi (v : Byte) : (s.setY v).pendingNmi = s.pendingNmi := rfl
@[simp] theorem State.setY_decimalDisabled (v : Byte) : (s.setY v).decimalDisabled = s.decimalDisabled := rfl
@[simp] theorem State.setY_debugOn (v : Byte) : (s.setY v).debugOn = s.debugOn := rfl
@[simp] theorem State.setY_params (v : Byte) : (s.setY v).params = s.params := rfl
@[simp] theorem State.setY_devices (v : Byte) : (s.setY v).devices = s.devices := rfl
@[simp] theorem State.setY_tickers (v : Byte) : (s.setY v).tickers = s.tickers := rfl
@[simp] theorem State.setY_tickCount (v : Byte) : (s.setY v).tickCount = s.tickCount := rfl
@[simp] theorem State.setY_trace (v : Byte) : (s.setY v).trace = s.trace := rfl

@[simp] theorem State.setSp_a (v : Byte) : (s.setSp v).a = s.a := rfl
@[simp] theorem State.setSp_x (v : Byte) : (s.setSp v).x = s.x := rfl
@[simp] theorem State.setSp_y (v : Byte) : (s.setSp v).y = s.y := rfl
@[simp] theorem State.setSp_sp (v : Byte) : (s.setSp v).sp = v := rfl
@[simp] theorem State.setSp_p (v : Byte) : (s.setSp v).p = s.p := rfl
@[simp] theorem State.setSp_pc (v : Byte) : (s.setSp v).pc = s.pc := rfl
@[simp] theorem State.setSp_waitCycles (v : Byte) : (s.setSp v).waitCycles = s.waitCycles := rfl
@[simp] theorem State.setSp_pendingIrq (v : Byte) : (s.setSp v).pendingIrq = s.pendingIrq := rfl
@[simp] theorem State.setSp_pendingNmi (v : Byte) : (s.setSp v).pendingNmi = s.pendingNmi := rfl
@[simp] theorem State.setSp_decimalDisabled (v : Byte) : (s.setSp v).decimalDisabled = s.decimalDisabled := rfl
@[simp] theorem State.setSp_debugOn (v : Byte) : (s.setSp v).debugOn = s.debugOn := rfl
@[simp] theorem State.setSp_params (v : Byte) : (s.setSp v).params = s.params := rfl
@[simp] theorem State.setSp_devices (v : Byte) : (s.setSp v).devices = s.devices := rfl
@[simp] theorem State.setSp_tickers (v : Byte) : (s.setSp v).tickers = s.tickers := rfl
@[simp] theorem State.setSp_tickCount (v : Byte) : (s.setSp v).tickCount = s.tickCount := rfl
@[simp] theorem State.setSp_trace (v : Byte) : (s.setSp v).trace = s.trace := rfl

@[simp] theorem State.setP_a (v : Byte) : (s.setP v).a = s.a := rfl
@[simp] theorem State.setP_x (v : Byte) : (s.setP v).x = s.x := rfl
@[simp] theorem State.setP_y (v : Byte) : (s.setP v).y = s.y := rfl
@[simp] theorem State.setP_sp (v : Byte) : (s.setP v).sp = s.sp := rfl
@[simp] theorem State.setP_p (v : Byte) : (s.setP v).p = v := rfl
@[simp] theorem State.setP_pc (v : Byte) : (s.setP v).pc = s.pc := rfl
@[simp] theorem State.setP_waitCycles (v : Byte) : (s.setP v).waitCycles = s.waitCycles := rfl
@[simp] theorem State.setP_pendingIrq (v : Byte) : (s.setP v).pendingIrq = s.pendingIrq := rfl
@[simp] theorem State.setP_pendingNmi (v : Byte) : (s.setP v).pendingNmi = s.pendingNmi := rfl
@[simp] theorem State.setP_decimalDisabled (v : Byte) : (s.setP v).decimalDisabled = s.decimalDisabled := rfl
@[simp] theorem State.setP_debugOn (v : Byte) : (s.setP v).debugOn = s.debugOn := rfl
@[simp] theorem State.setP_params (v : Byte) : (s.setP v).params = s.params := rfl
@[simp] theorem State.setP_devices (v : Byte) : (s.setP v).devices = s.devices := rfl
@[simp] theorem State.setP_tickers (v : Byte) : (s.setP v).tickers = s.tickers := rfl
@[simp] theorem State.setP_tickCount (v : Byte) : (s.setP v).tickCount = s.tickCount := rfl
@[simp] theorem State.setP_trace (v : Byte) : (s.setP v).trace = s.trace := rfl

@[simp] theorem State.setPc_a (v : Word) : (s.setPc v).a = s.a := rfl
@[simp] theorem State.setPc_x (v : Word) : (s.setPc v).x = s.x := rfl
@[simp] theorem State.setPc_y (v : Word) : (s.setPc v).y = s.y := rfl
@[simp] theorem State.setPc_sp (v : Word) : (s.setPc v).sp = s.sp := rfl
@[simp] theorem State.setPc_p (v : Word) : (s.setPc v).p = s.p := rfl
@[simp] theorem State.setPc_pc (v : Word) : (s.setPc v).pc = v := rfl
@[simp] theorem State.setPc_waitCycles (v : Word) : (s.setPc v).waitCycles = s.waitCycles := rfl
@[simp] theorem State.setPc_pendingIrq (v : Word) : (s.setPc v).pendingIrq = s.pendingIrq := rfl
@[simp] theorem State.setPc_pendingNmi (v : Word) : (s.setPc v).pendingNmi = s.pendingNmi := rfl
@[simp] theorem State.setPc_decimalDisabled (v : Word) : (s.setPc v).decimalDisabled = s.decimalDisabled := rfl
@[simp] theorem State.setPc_debugOn (v : Word) : (s.setPc v).debugOn = s.debugOn := rfl
@[simp] theorem State.setPc_params (v : Word) : (s.setPc v).params = s.params := rfl
@[simp] theorem State.setPc_devices (v : Word) : (s.setPc v).devices = s.devices := rfl
@[simp] theorem State.setPc_tickers (v : Word) : (s.setPc v).tickers = s.tickers := rfl
@[simp] theorem State.setPc_tickCount (v : Word) : (s.setPc v).tickCount = s.tickCount := rfl
@[simp] theorem State.setPc_trace (v : Word) : (s.setPc v).trace = s.trace := rfl

@[simp] theorem State.addWait_a (n : Nat) : (s.addWait n).a = s.a := rfl
@[simp] theorem State.addWait_x (n : Nat) : (s.addWait n).x = s.x := rfl
@[simp] theorem State.addWait_y (n : Nat) : (s.addWait n).y = s.y := rfl
@[simp] theorem State.addWait_sp (n : Nat) : (s.addWait n).sp = s.sp := rfl
@[simp] theorem State.addWait_p (n : Nat) : (s.addWait n).p = s.p := rfl
@[simp] theorem State.addWait_pc (n : Nat) : (s.addWait n).pc = s.pc := rfl
@[simp] theorem State.addWait_waitCycles (n : Nat) : (s.addWait n).waitCycles = s.waitCycles + n := rfl
@[simp] theorem State.addWait_pendingIrq (n : Nat) : (s.addWait n).pendingIrq = s.pendingIrq := rfl
@[simp] theorem State.addWait_pendingNmi (n : Nat) : (s.addWait n).pendingNmi = s.pendingNmi := rfl
@[simp] theorem State.addWait_decimalDisabled (n : Nat) : (s.addWait n).decimalDisabled = s.decimalDisabled := rfl
@[simp] theorem State.addWait_debugOn (n : Nat) : (s.addWait n).debugOn = s.debugOn := rfl
@[simp] theorem State.addWait_params (n : Nat) : (s.addWait n).params = s.params := rfl
@[simp] theorem State.addWait_devices (n : Nat) : (s.addWait n).devices = s.devices := rfl
@[simp] theorem State.addWait_tickers (n : Nat) : (s.addWait n).tickers = s.tickers := rfl
@[simp] theorem State.addWait_tickCount (n : Nat) : (s.addWait n).tickCount = s.tickCount := rfl
@[simp] theorem State.addWait_trace (n : Nat) : (s.addWait n).trace = s.trace := rfl

@[simp] theorem State.setDevices_a (ds : List Device) : (s.setDevices ds).a = s.a := rfl
@[simp] theorem State.setDevices_x (ds : List Device) : (s.setDevices ds).x = s.x := rfl
@[simp] theorem State.setDevices_y (ds : List Device) : (s.setDevices ds).y = s.y := rfl
@[simp] theorem State.setDevices_sp (ds : List Device) : (s.setDevices ds).sp = s.sp := rfl
@[simp] theorem State.setDevices_p (ds : List Device) : (s.setDevices ds).p = s.p := rfl
@[simp] theorem State.setDevices_pc (ds : List Device) : (s.setDevices ds).pc = s.pc := rfl
@[simp] theorem State.setDevices_waitCycles (ds : List Device) : (s.setDevices ds).waitCycles = s.waitCycles := rfl
@[simp] theorem State.setDevices_pendingIrq (ds : List Device) : (s.setDevices ds).pendingIrq = s.pendingIrq := rfl
@[simp] theorem State.setDevices_pendingNmi (ds : List Device) : (s.setDevices ds).pendingNmi = s.pendingNmi := rfl
@[simp] theorem State.setDevices_decimalDisabled (ds : List Device) : (s.setDevices ds).decimalDisabled = s.decimalDisabled := rfl
@[simp] theorem State.setDevices_debugOn (ds : List Device) : (s.setDevices ds).debugOn = s.debugOn := rfl
@[simp] theorem State.setDevices_params (ds : List Device) : (s.setDevices ds).params = s.params := rfl
@[simp] theorem State.setDevices_devices (ds : List Device) : (s.setDevices ds).devices = ds := rfl
@[simp] theorem State.setDevices_tickers (ds : List Device) : (s.setDevices ds).tickers = s.tickers := rfl
@[simp] theorem State.setDevices_tickCount (ds : List Device) : (s.setDevices ds).tickCount = s.tickCount := rfl
@[simp] theorem State.setDevices_trace (ds : List Device) : (s.setDevices ds).trace = s.trace := rfl

@[simp] theorem State.setFlag_a (f : Flag) (b : Bool) : (s.setFlag f b).a = s.a := rfl
@[simp] theorem State.setFlag_x (f : Flag) (b : Bool) : (s.setFlag f b).x = s.x := rfl
@[simp] theorem State.setFlag_y (f : Flag) (b : Bool) : (s.setFlag f b).y = s.y := rfl
@[simp] theorem State.setFlag_sp (f : Flag) (b : Bool) : (s.setFlag f b).sp = s.sp := rfl
@[simp] theorem State.setFlag_p (f : Flag) (b : Bool) : (s.setFlag f b).p = putFlag f b s.p := rfl
@[simp] theorem State.setFlag_pc (f : Flag) (b : Bool) : (s.setFlag f b).pc = s.pc := rfl
@[simp] theorem State.setFlag_waitCycles (f : Flag) (b : Bool) : (s.setFlag f b).waitCycles = s.waitCycles := rfl
@[simp] theorem State.setFlag_pendingIrq (f : Flag) (b : Bool) : (s.setFlag f b).pendingIrq = s.pendingIrq := rfl
@[simp] theorem State.setFlag_pendingNmi (f : Flag) (b : Bool) : (s.setFlag f b).pendingNmi = s.pendingNmi := rfl
@[simp] theorem State.setFlag_decimalDisabled (f : Flag) (b : Bool) : (s.setFlag f b).decimalDisabled = s.decimalDisabled := rfl
@[simp] theorem State.setFlag_debugOn (f : Flag) (b : Bool) : (s.setFlag f b).debugOn = s.debugOn := rfl
@[simp] theorem State.setFlag_params (f : Flag) (b : Bool) : (s.setFlag f b).params = s.params := rfl
@[simp] theorem State.setFlag_devices (f : Flag) (b : Bool) : (s.setFlag f b).devices = s.devices := rfl
@[simp] theorem State.setFlag_tickers (f : Flag) (b : Bool) : (s.setFlag f b).tickers = s.tickers := rfl
@[simp] theorem State.setFlag_tickCount (f : Flag) (b : Bool) : (s.setFlag f b).tickCount = s.tickCount := rfl
@[simp] theorem State.setFlag_trace (f : Flag) (b : Bool) : (s.setFlag f b).trace = s.trace := rfl

@[simp] theorem State.setNZ_a (v : Byte) : (s.setNZ v).a = s.a := rfl
@[simp] theorem State.setNZ_x (v : Byte) : (s.setNZ v).x = s.x := rfl
@[simp] theorem State.setNZ_y (v : Byte) : (s.setNZ v).y = s.y := rfl
@[simp] theorem State.setNZ_sp (v : Byte) : (s.setNZ v).sp = s.sp := rfl
@[simp] theorem State.setNZ_p (v : Byte) : (s.setNZ v).p = nzOf v s.p := rfl
@[simp] theorem State.setNZ_pc (v : Byte) : (s.setNZ v).pc = s.pc := rfl
@[simp] theorem State.setNZ_waitCycles (v : Byte) : (s.setNZ v).waitCycles = s.waitCycles := rfl
@[simp] theorem State.setNZ_pendingIrq (v : Byte) : (s.setNZ v).pendingIrq = s.pendingIrq := rfl
@[simp] theorem State.setNZ_pendingNmi (v : Byte) : (s.setNZ v).pendingNmi = s.pendingNmi := rfl
@[simp] theorem State.setNZ_decimalDisabled (v : Byte) : (s.setNZ v).decimalDisabled = s.decimalDisabled := rfl
@[simp] theorem State.setNZ_debugOn (v : Byte) : (s.setNZ v).debugOn = s.debugOn := rfl
@[simp] theorem State.setNZ_params (v : Byte) : (s.setNZ v).params = s.params := rfl
@[simp] theorem State.setNZ_devices (v : Byte) : (s.setNZ v).devices = s.devices := rfl
@[simp] theorem State.setNZ_tickers (v : Byte) : (s.setNZ v).tickers = s.tickers := rfl
@[simp] theorem State.setNZ_tickCount (v : Byte) : (s.setNZ v).tickCount = s.tickCount := rfl
@[simp] theorem State.setNZ_trace (v : Byte) : (s.setNZ v).trace = s.trace := rfl

@[simp] theorem State.memWrite_a (a : Word) (v : Byte) : (s.memWrite a v).a = s.a := rfl
@[simp] theorem State.memWrite_x (a : Word) (v : Byte) : (s.memWrite a v).x = s.x := rfl
@[simp] theorem State.memWrite_y (a : Word) (v : Byte) : (s.memWrite a v).y = s.y := rfl
@[simp] theorem State.memWrite_sp (a : Word) (v : Byte) : (s.memWrite a v).sp = s.sp := rfl
@[simp] theorem State.memWrite_p (a : Word) (v : Byte) : (s.memWrite a v).p = s.p := rfl
@[simp] theorem State.memWrite_pc (a : Word) (v : Byte) : (s.memWrite a v).pc = s.pc := rfl
@[simp] theorem State.memWrite_waitCycles (a : Word) (v : Byte) : (s.memWrite a v).waitCycles = s.waitCycles := rfl
@[simp] theorem State.memWrite_pendingIrq (a : Word) (v : Byte) : (s.memWrite a v).pendingIrq = s.pendingIrq := rfl
@[simp] theorem State.memWrite_pendingNmi (a : Word) (v : Byte) : (s.memWrite a v).pendingNmi = s.pendingNmi := rfl
@[simp] theorem State.memWrite_decimalDisabled (a : Word) (v : Byte) : (s.memWrite a v).decimalDisabled = s.decimalDisabled := rfl
@[simp] theorem State.memWrite_debugOn (a : Word) (v : Byte) : (s.memWrite a v).debugOn = s.debugOn := rfl
@[simp] theorem State.memWrite_params (a : Word) (v : Byte) : (s.memWrite a v).params = s.params := rfl
@[simp] theorem State.memWrite_devices (a : Word) (v : Byte) : (s.memWrite a v).devices = busWrite s.devices a v := rfl
@[simp] theorem State.memWrite_tickers (a : Word) (v : Byte) : (s.memWrite a v).tickers = s.tickers := rfl
@[simp] theorem State.memWrite_tickCount (a : Word) (v : Byte) : (s.memWrite a v).tickCount = s.tickCount := rfl
@[simp] theorem State.memWrite_trace (a : Word) (v : Byte) : (s.memWrite a v).trace = s.trace := rfl

@[simp] theorem State.push8_a (v : Byte) : (s.push8 v).a = s.a := rfl
@[simp] theorem State.push8_x (v : Byte) : (s.push8 v).x = s.x := rfl
@[simp] theorem State.push8_y (v : Byte) : (s.push8 v).y = s.y := rfl
@[simp] theorem State.push8_sp (v : Byte) : (s.push8 v).sp = s.sp - 1 := rfl
@[simp] theorem State.push8_p (v : Byte) : (s.push8 v).p = s.p := rfl
@[simp] theorem State.push8_pc (v : Byte) : (s.push8 v).pc = s.pc := rfl
@[simp] theorem State.push8_waitCycles (v : Byte) : (s.push8 v).waitCycles = s.waitCycles := rfl
@[simp] theorem State.push8_pendingIrq (v : Byte) : (s.push8 v).pendingIrq = s.pendingIrq := rfl
@[simp] theorem State.push8_pendingNmi (v : Byte) : (s.push8 v).pendingNmi = s.pendingNmi := rfl
@[simp] theorem State.push8_decimalDisabled (v : Byte) : (s.push8 v).decimalDisabled = s.decimalDisabled := rfl
@[simp] theorem State.push8_debugOn (v : Byte) : (s.push8 v).debugOn = s.debugOn := rfl
@[simp] theorem State.push8_params (v : Byte) : (s.push8 v).params = s.params := rfl
@[simp] theorem State.push8_devices (v : Byte) : (s.push8 v).devices = busWrite s.devices (stackAddr s.sp) v := rfl
@[simp] theorem State.push8_tickers (v : Byte) : (s.push8 v).tickers = s.tickers := rfl
@[simp] theorem State.push8_tickCount (v : Byte) : (s.push8 v).tickCount = s.tickCount := rfl
@[simp] theorem State.push8_trace (v : Byte) : (s.push8 v).trace = s.trace := rfl

@[simp] theorem State.memRead_a (a : Word) : (s.memRead a).2.a = s.a := rfl
@[simp] theorem State.memRead_x (a : Word) : (s.memRead a).2.x = s.x := rfl
@[simp] theorem State.memRead_y (a : Word) : (s.memRead a).2.y = s.y := rfl
@[simp] theorem State.memRead_sp (a : Word) : (s.memRead a).2.sp = s.sp := rfl
@[simp] theorem State.memRead_p (a : Word) : (s.memRead a).2.p = s.p := rfl
@[simp] theorem State.memRead_pc (a : Word) : (s.memRead a).2.pc = s.pc := rfl
@[simp] theorem State.memRead_waitCycles (a : Word) : (s.memRead a).2.waitCycles = s.waitCycles := rfl
@[simp] theorem State.memRead_pendingIrq (a : Word) : (s.memRead a).2.pendingIrq = s.pendingIrq := rfl
@[simp] theorem State.memRead_pendingNmi (a : Word) : (s.memRead a).2.pendingNmi = s.pendingNmi := rfl
@[simp] theorem State.memRead_decimalDisabled (a : Word) : (s.memRead a).2.decimalDisabled = s.decimalDisabled := rfl
@[simp] theorem State.memRead_debugOn (a : Word) : (s.memRead a).2.debugOn = s.debugOn := rfl
@[simp] theorem State.memRead_params (a : Word) : (s.memRead a).2.params = s.params := rfl
@[simp] theorem State.memRead_devices (a : Word) : (s.memRead a).2.devices = (busRead s.devices a).2 := rfl
@[simp] theorem State.memRead_tickers (a : Word) : (s.memRead a).2.tickers = s.tickers := rfl
@[simp] theorem State.memRead_tickCount (a : Word) : (s.memRead a).2.tickCount = s.tickCount := rfl
@[simp] theorem State.memRead_trace (a : Word) : (s.memRead a).2.trace = s.trace := rfl
@[simp] theorem State.memRead_fst (a : Word) : (s.memRead a).1 = s.peek a := rfl

@[simp] theorem State.memRead2_a (a b : Word) : (s.memRead2 a b).2.a = s.a := rfl
@[simp] theorem State.memRead2_x (a b : Word) : (s.memRead2 a b).2.x = s.x := rfl
@[simp] theorem State.memRead2_y (a b : Word) : (s.memRead2 a b).2.y = s.y := rfl
@[simp] theorem State.memRead2_sp (a b : Word) : (s.memRead2 a b).2.sp = s.sp := rfl
@[simp] theorem State.memRead2_p (a b : Word) : (s.memRead2 a b).2.p = s.p := rfl
@[simp] theorem State.memRead2_pc (a b : Word) : (s.memRead2 a b).2.pc = s.pc := rfl
@[simp] theorem State.memRead2_waitCycles (a b : Word) : (s.memRead2 a b).2.waitCycles = s.waitCycles := rfl
@[simp] theorem State.memRead2_pendingIrq (a b : Word) : (s.memRead2 a b).2.pendingIrq = s.pendingIrq := rfl
@[simp] theorem State.memRead2_pendingNmi (a b : Word) : (s.memRead2 a b).2.pendingNmi = s.pendingNmi := rfl
@[simp] theorem State.memRead2_decimalDisabled (a b : Word) : (s.memRead2 a b).2.decimalDisabled = s.decimalDisabled := rfl
@[simp] theorem State.memRead2_debugOn (a b : Word) : (s.memRead2 a b).2.debugOn = s.debugOn := rfl
@[simp] theorem State.memRead2_params (a b : Word) : (s.memRead2 a b).2.params = s.params := rfl
@[simp] theorem State.memRead2_devices (a b : Word) : (s.memRead2 a b).2.devices = (busRead (busRead s.devices a).2 b).2 := rfl
@[simp] theorem State.memRead2_tickers (a b : Word) : (s.memRead2 a b).2.tickers = s.tickers := rfl
@[simp] theorem State.memRead2_tickCount (a b : Word) : (s.memRead2 a b).2.tickCount = s.tickCount := rfl
@[simp] theorem State.memRead2_trace (a b : Word) : (s.memRead2 a b).2.trace = s.trace := rfl

@[simp] theorem State.pop8_a : s.pop8.2.a = s.a := rfl
@[simp] theorem State.pop8_x : s.pop8.2.x = s.x := rfl
@[simp] theorem State.pop8_y : s.pop8.2.y = s.y := rfl
@[simp] theorem State.pop8_sp : s.pop8.2.sp = s.sp + 1 := rfl
@[simp] theorem State.pop8_p : s.pop8.2.p = s.p := rfl
@[simp] theorem State.pop8_pc : s.pop8.2.pc = s.pc := rfl
@[simp] theorem State.pop8_waitCycles : s.pop8.2.waitCycles = s.waitCycles := rfl
@[simp] theorem State.pop8_pendingIrq : s.pop8.2.pendingIrq = s.pendingIrq := rfl
@[simp] theorem State.pop8_pendingNmi : s.pop8.2.pendingNmi = s.pendingNmi := rfl
@[simp] theorem State.pop8_decimalDisabled : s.pop8.2.decimalDisabled = s.decimalDisabled := rfl
@[simp] theorem State.pop8_debugOn : s.pop8.2.debugOn = s.debugOn := rfl
@[simp] theorem State.pop8_params : s.pop8.2.params = s.params := rfl
@[simp] theorem State.pop8_devices : s.pop8.2.devices = (busRead s.devices (stackAddr (s.sp + 1))).2 := rfl
@[simp] theorem State.pop8_tickers : s.pop8.2.tickers = s.tickers := rfl
@[simp] theorem State.pop8_tickCount : s.pop8.2.tickCount = s.tickCount := rfl
@[simp] theorem State.pop8_trace : s.pop8.2.trace = s.trace := rfl

@[simp] theorem State.push16_a (w : Word) : (s.push16 w).a = s.a := by simp [State.push16]
@[simp] theorem State.push16_x (w : Word) : (s.push16 w).x = s.x := by simp [State.push16]
@[simp] theorem State.push16_y (w : Word) : (s.push16 w).y = s.y := by simp [State.push16]
@[simp] theorem State.push16_sp (w : Word) : (s.push16 w).sp = s.sp - 1 - 1 := by simp [State.push16]
@[simp] theorem State.push16_p (w : Word) : (s.push16 w).p = s.p := by simp [State.push16]
@[simp] theorem State.push16_pc (w : Word) : (s.push16 w).pc = s.pc := by simp [State.push16]
@[simp] theorem State.push16_waitCycles (w : Word) : (s.push16 w).waitCycles = s.waitCycles := by simp [State.push16]
@[simp] theorem State.push16_pendingIrq (w : Word) : (s.push16 w).pendingIrq = s.pendingIrq := by simp [State.push16]
@[simp] theorem State.push16_pendingNmi (w : Word) : (s.push16 w).pendingNmi = s.pendingNmi := by simp [State.push16]
@[simp] theorem State.push16_decimalDisabled (w : Word) : (s.push16 w).decimalDisabled = s.decimalDisabled := by simp [State.push16]
@[simp] theorem State.push16_debugOn (w : Word) : (s.push16 w).debugOn = s.debugOn := by simp [State.push16]
@[simp] theorem State.push16_params (w : Word) : (s.push16 w).params = s.params := by simp [State.push16]
@[simp] theorem State.push16_tickers (w : Word) : (s.push16 w).tickers = s.tickers := by simp [State.push16]
@[simp] theorem State.push16_tickCount (w : Word) : (s.push16 w).tickCount = s.tickCount := by simp [State.push16]
@[simp] theorem State.push16_trace (w : Word) : (s.push16 w).trace = s.trace := by simp [State.push16]

@[simp] theorem State.pop16_a : s.pop16.2.a = s.a := by simp [State.pop16]
@[simp] theorem State.pop16_x : s.pop16.2.x = s.x := by simp [State.pop16]
@[simp] theorem State.pop16_y : s.pop16.2.y = s.y := by simp [State.pop16]
@[simp] theorem State.pop16_sp : s.pop16.2.sp = s.sp + 1 + 1 := by simp [State.pop16]
@[simp] theorem State.pop16_p : s.pop16.2.p = s.p := by simp [State.pop16]
@[simp] theorem State.pop16_pc : s.pop16.2.pc = s.pc := by simp [State.pop16]
@[simp] theorem State.pop16_waitCycles : s.pop16.2.waitCycles = s.waitCycles := by simp [State.pop16]
@[simp] theorem State.pop16_pendingIrq : s.pop16.2.pendingIrq = s.pendingIrq := by simp [State.pop16]
@[simp] theorem State.pop16_pendingNmi : s.pop16.2.pendingNmi = s.pendingNmi := by simp [State.pop16]
@[simp] theorem State.pop16_decimalDisabled : s.pop16.2.decimalDisabled = s.decimalDisabled := by simp [State.pop16]
@[simp] theorem State.pop16_debugOn : s.pop16.2.debugOn = s.debugOn := by simp [State.pop16]
@[simp] theorem State.pop16_params : s.pop16.2.params = s.params := by simp [State.pop16]
@[simp] theorem State.pop16_tickers : s.pop16.2.tickers = s.tickers := by simp [State.pop16]
@[simp] theorem State.pop16_tickCount : s.pop16.2.tickCount = s.tickCount := by simp [State.pop16]
@[simp] theorem State.pop16_trace : s.pop16.2.trace = s.trace := by simp [State.pop16]

@[simp] theorem State.enterHandler_a (ret : Word) (b : Bool) (vec : Word) :
    (s.enterHandler ret b vec).a = s.a := by simp [State.enterHandler]
@[simp] theorem State.enterHandler_x (ret : Word) (b : Bool) (vec : Word) :
    (s.enterHandler ret b vec).x = s.x := by simp [State.enterHandler]
@[simp] theorem State.enterHandler_y (ret : Word) (b : Bool) (vec : Word) :
    (s.enterHandler ret b vec).y = s.y := by simp [State.enterHandler]
@[simp] theorem State.enterHandler_sp (ret : Word) (b : Bool) (vec : Word) :
    (s.enterHandler ret b vec).sp = s.sp - 1 - 1 - 1 := by simp [State.enterHandler]
@[simp] theorem State.enterHandler_p (ret : Word) (b : Bool) (vec : Word) :
    (s.enterHandler ret b vec).p = putFlag .I true s.p := by simp [State.enterHandler]
@[simp] theorem State.enterHandler_waitCycles (ret : Word) (b : Bool) (vec : Word) :
    (s.enterHandler ret b vec).waitCycles = s.waitCycles := by simp [State.enterHandler]
@[simp] theorem State.enterHandler_pendingIrq (ret : Word) (b : Bool) (vec : Word) :
    (s.enterHandler ret b vec).pendingIrq = s.pendingIrq := by simp [State.enterHandler]
@[simp] theorem State.enterHandler_pendingNmi (ret : Word) (b : Bool) (vec : Word) :
    (s.enterHandler ret b vec).pendingNmi = s.pendingNmi := by simp [State.enterHandler]
@[simp] theorem State.enterHandler_decimalDisabled (ret : Word) (b : Bool) (vec : Word) :
    (s.enterHandler ret b vec).decimalDisabled = s.decimalDisabled := by simp [State.enterHandler]
@[simp] theorem State.enterHandler_debugOn (ret : Word) (b : Bool) (vec : Word) :
    (s.enterHandler ret b vec).debugOn = s.debugOn := by simp [State.enterHandler]
@[simp] theorem State.enterHandler_params (ret : Word) (b : Bool) (vec : Word) :
    (s.enterHandler ret b vec).params = s.params := by simp [State.enterHandler]
@[simp] theorem State.enterHandler_tickers (ret : Word) (b : Bool) (vec : Word) :
    (s.enterHandler ret b vec).tickers = s.tickers := by simp [State.enterHandler]
@[simp] theorem State.enterHandler_tickCount (ret : Word) (b : Bool) (vec : Word) :
    (s.enterHandler ret b vec).tickCount = s.tickCount := by simp [State.enterHandler]
@[simp] theorem State.enterHandler_trace (ret : Word) (b : Bool) (vec : Word) :
    (s.enterHandler ret b vec).trace = s.trace := by simp [State.enterHandler]

@[simp] theorem State.returnFromHandler_a : s.returnFromHandler.a = s.a := by simp [State.returnFromHandler]
@[simp] theorem State.returnFromHandler_x : s.returnFromHandler.x = s.x := by simp [State.returnFromHandler]
@[simp] theorem State.returnFromHandler_y : s.returnFromHandler.y = s.y := by simp [State.returnFromHandler]
@[simp] theorem State.returnFromHandler_sp : s.returnFromHandler.sp = s.sp + 1 + 1 + 1 := by simp [State.returnFromHandler]
@[simp] theorem State.returnFromHandler_waitCycles : s.returnFromHandler.waitCycles = s.waitCycles := by simp [State.returnFromHandler]
@[simp] theorem State.returnFromHandler_pendingIrq : s.returnFromHandler.pendingIrq = s.pendingIrq := by simp [State.returnFromHandler]
@[simp] theorem State.returnFromHandler_pendingNmi : s.returnFromHandler.pendingNmi = s.pendingNmi := by simp [State.returnFromHandler]
@[simp] theorem State.returnFromHandler_decimalDisabled : s.returnFromHandler.decimalDisabled = s.decimalDisabled := by simp [State.returnFromHandler]
@[simp] theorem State.returnFromHandler_debugOn : s.returnFromHandler.debugOn = s.debugOn := by simp [State.returnFromHandler]
@[simp] theorem State.returnFromHandler_params : s.returnFromHandler.params = s.params := by simp [State.returnFromHandler]
@[simp] theorem State.returnFromHandler_tickers : s.returnFromHandler.tickers = s.tickers := by simp [State.returnFromHandler]
@[simp] theorem State.returnFromHandler_tickCount : s.returnFromHandler.tickCount = s.tickCount := by simp [State.returnFromHandler]
@[simp] theorem State.returnFromHandler_trace : s.returnFromHandler.trace = s.trace := by simp [State.returnFromHandler]

@[simp] theorem State.setP_flag (v : Byte) (f : Flag) : (s.setP v).flag f = getFlag f v := rfl

end Sys2Proof.Machine
end

