-- ==== Sys2Proof/Laws/Ops.lean ====
section
/-! SUPPORT. What each shared operation can do, said once: on a bus of RAM and ROM a read changes nothing; every
operation's effect on the device table is a run of bus accesses; and the resolver changes the devices and the wait
count only. -/

namespace Sys2Proof.Machine

theorem State.memRead_plain {s : State} (h : s.plainBus = true) (a : Word) : (s.memRead a).2 = s := by
  simp only [State.memRead, busRead_plain h]; rfl

theorem State.memRead2_plain {s : State} (h : s.plainBus = true) (a b : Word) :
    s.memRead2 a b = (mkWord (s.peek b) (s.peek a), s) := by
  simp only [State.memRead2, State.memRead_plain h]; rfl

theorem State.plainBus_of_accessed {s t : State} (h : Accessed s.devices t.devices) (hp : s.plainBus = true) :
    t.plainBus = true := h.plain hp

/-! ## Each operation's effect on the device table is a run of bus accesses -/

theorem State.memRead_accessed (s : State) (a : Word) : Accessed s.devices (s.memRead a).2.devices :=
  (Accessed.refl _).read a

theorem State.memWrite_accessed (s : State) (a : Word) (v : Byte) : Accessed s.devices (s.memWrite a v).devices :=
  (Accessed.refl _).write a v

theorem State.memRead2_accessed (s : State) (a b : Word) : Accessed s.devices (s.memRead2 a b).2.devices := by
  simpa using ((Accessed.refl _).read a).read b

theorem State.push8_accessed (s : State) (v : Byte) : Accessed s.devices (s.push8 v).devices := by
  simpa using (Accessed.refl s.devices).write (stackAddr s.sp) v

theorem State.pop8_accessed (s : State) : Accessed s.devices s.pop8.2.devices := by
  simpa using (Accessed.refl s.devices).read (stackAddr (s.sp + 1))

theorem State.push16_accessed (s : State) (w : Word) : Accessed s.devices (s.push16 w).devices :=
  (State.push8_accessed _ _).trans (State.push8_accessed _ _)

theorem State.pop16_accessed (s : State) : Accessed s.devices s.pop16.2.devices :=
  (State.pop8_accessed _).trans (State.pop8_accessed _)

theorem State.enterHandler_accessed (s : State) (ret : Word) (b : Bool) (vec : Word) :
    Accessed s.devices (s.enterHandler ret b vec).devices := by
  have h1 := (State.push16_accessed s ret).trans (State.push8_accessed _ (pushedStatus b s.p))
  have h2 := State.memRead2_accessed (((s.push16 ret).push8 (pushedStatus b s.p)).setFlag .I true) vec (vec + 1)
  rw [State.setFlag_devices] at h2
  simpa only [State.enterHandler, State.setPc_devices] using h1.trans h2

theorem State.returnFromHandler_accessed (s : State) : Accessed s.devices s.returnFromHandler.devices := by
  have h1 := State.pop8_accessed s
  have h2 := State.pop16_accessed (s.pop8.2.setP (pulledStatus s.pop8.1))
  rw [State.setP_devices] at h2
  simpa only [State.returnFromHandler, State.setPc_devices] using h1.trans h2

theorem State.fetchByte_accessed (s : State) : Accessed s.devices s.fetchByte.2.devices := by
  simpa only [State.fetchByte, State.setPc_devices] using State.memRead_accessed s s.pc

theorem State.fetch_accessed (s : State) : Accessed s.devices s.fetch.2.devices := by
  have h0 := State.fetchByte_accessed s
  have h1 := State.fetchByte_accessed s.fetchByte.2
  have h2 := State.fetchByte_accessed s.fetchByte.2.fetchByte.2
  simp only [State.fetch]
  split
  · exact h0
  · exact h0.trans h1
  · exact (h0.trans h1).trans h2

/-- `s` with another device table and wait count: all a resolver or a bus access can make of it. -/
def State.withBus (s : State) (ds : List Device) (w : Nat) : State := { s with devices := ds, waitCycles := w }

theorem State.withBus_self (s : State) : s.withBus s.devices s.waitCycles = s := rfl

theorem indexed_cases (base : Word) (index : Byte) (s : State) :
    indexed base index s =
      (base + zext16 index,
        s.withBus s.devices (s.waitCycles + if pageCross base (base + zext16 index) then 1 else 0)) := by
  simp only [indexed]
  split <;> rfl

/-- All a resolver can do (40_step_and_addressing.md R103): the registers stay, the device table goes through bus
accesses, and at most one cycle is added, only in abx, aby and izy. -/
theorem resolve_cases (m : Mode) (arg operand : Word) (s : State) :
    ∃ ds w, (resolve m arg operand s).2 = s.withBus ds (s.waitCycles + w) ∧ Accessed s.devices ds ∧ w ≤ 1 ∧
      (w = 1 → m = .abx ∨ m = .aby ∨ m = .izy) := by
  have same : ∃ ds w, s = s.withBus ds (s.waitCycles + w) ∧ Accessed s.devices ds ∧ w ≤ 1 ∧
      (w = 1 → m = .abx ∨ m = .aby ∨ m = .izy) :=
    ⟨s.devices, 0, rfl, Accessed.refl _, by omega, by omega⟩
  have two : ∀ a b : Word, ∃ ds w, (s.memRead2 a b).2 = s.withBus ds (s.waitCycles + w) ∧ Accessed s.devices ds ∧
      w ≤ 1 ∧ (w = 1 → m = .abx ∨ m = .aby ∨ m = .izy) := fun a b =>
    ⟨_, 0, rfl, State.memRead2_accessed s a b, by omega, by omega⟩
  cases m
  case abx | aby =>
    simp only [resolve, indexed_cases]
    exact ⟨_, _, rfl, Accessed.refl _, by split <;> omega, fun _ => by simp⟩
  case izy =>
    simp only [resolve, indexed_cases]
    exact ⟨_, _, rfl, State.memRead2_accessed s _ _, by split <;> omega, fun _ => by simp⟩
  case izx => exact two _ _
  case ind => exact two _ _
  all_goals exact same

/-- The same of an instruction's own resolution. -/
theorem addressed_cases (i : Instr) (s : State) :
    ∃ ds w, (addressed i s).2 = s.withBus ds (s.waitCycles + w) ∧ Accessed s.devices ds ∧ w ≤ 1 ∧
      (w = 1 → i.row.mode = .abx ∨ i.row.mode = .aby ∨ i.row.mode = .izy) :=
  resolve_cases _ _ _ s

/-- The registers of an instruction's own resolution are those it started with. -/
@[simp] theorem addressed_a (i : Instr) (s : State) : (addressed i s).2.a = s.a := by
  obtain ⟨ds, w, h, -⟩ := addressed_cases i s
  rw [h]
  rfl
@[simp] theorem addressed_x (i : Instr) (s : State) : (addressed i s).2.x = s.x := by
  obtain ⟨ds, w, h, -⟩ := addressed_cases i s
  rw [h]
  rfl
@[simp] theorem addressed_y (i : Instr) (s : State) : (addressed i s).2.y = s.y := by
  obtain ⟨ds, w, h, -⟩ := addressed_cases i s
  rw [h]
  rfl
@[simp] theorem addressed_sp (i : Instr) (s : State) : (addressed i s).2.sp = s.sp := by
  obtain ⟨ds, w, h, -⟩ := addressed_cases i s
  rw [h]
  rfl
@[simp] theorem addressed_p (i : Instr) (s : State) : (addressed i s).2.p = s.p := by
  obtain ⟨ds, w, h, -⟩ := addressed_cases i s
  rw [h]
  rfl
@[simp] theorem addressed_pc (i : Instr) (s : State) : (addressed i s).2.pc = s.pc := by
  obtain ⟨ds, w, h, -⟩ := addressed_cases i s
  rw [h]
  rfl

/-- `page_cross` as numbers (40 R116). -/
theorem pageCross_iff (a b : Word) : pageCross a b = decide (a.toNat / 256 ≠ b.toNat / 256) := by
  simp only [pageCross, bne, ← hiByte_toNat]
  by_cases h : hiByte a = hiByte b
  · simp [h]
  · have : (hiByte a).toNat ≠ (hiByte b).toNat := fun h' => h (BitVec.eq_of_toNat_eq h')
    simp [h, this]

end Sys2Proof.Machine
end

