-- ==== Sys2Proof/Laws/Exec.lean ====
section
/-! SUPPORT. What an instruction can do, said once: `exec` runs the row's behaviour in the shared frame, or is the fatal
core error; and no behaviour touches the latches, the host's configuration, the tickers, the counter or the trace, nor
the device table but through the bus. -/

namespace Sys2Proof.Machine

/-- The behaviour of each instruction; none for the UNK rows. -/
def behaviourOf : Instr → Option (Word → State → State)
  | .brk => some brkOp
  | .oraIzx _ => some oraOp
  | .unk02 => none
  | .sloIzx _ => some sloOp
  | .nopZp04 _ => some nopOp
  | .oraZp _ => some oraOp
  | .aslZp _ => some aslOp
  | .sloZp _ => some sloOp
  | .php => some phpOp
  | .oraImm _ => some oraOp
  | .aslA => some aslAOp
  | .ancImm0B _ => some ancOp
  | .nopAbs0C _ => some nopOp
  | .oraAbs _ => some oraOp
  | .aslAbs _ => some aslOp
  | .sloAbs _ => some sloOp
  | .bpl _ => some bplOp
  | .oraIzy _ => some oraOp
  | .unk12 => none
  | .sloIzy _ => some sloOp
  | .nopZpx14 _ => some nopOp
  | .oraZpx _ => some oraOp
  | .aslZpx _ => some aslOp
  | .sloZpx _ => some sloOp
  | .clc => some clcOp
  | .oraAby _ => some oraOp
  | .nop1A => some nopOp
  | .sloAby _ => some sloOp
  | .nopAbx1C _ => some nopOp
  | .oraAbx _ => some oraOp
  | .aslAbx _ => some aslOp
  | .sloAbx _ => some sloOp
  | .jsr _ => some jsrOp
  | .andIzx _ => some andOp
  | .unk22 => none
  | .rlaIzx _ => some rlaOp
  | .bitZp _ => some bitOp
  | .andZp _ => some andOp
  | .rolZp _ => some rolOp
  | .rlaZp _ => some rlaOp
  | .plp => some plpOp
  | .andImm _ => some andOp
  | .rolA => some rolAOp
  | .ancImm2B _ => some ancOp
  | .bitAbs _ => some bitOp
  | .andAbs _ => some andOp
  | .rolAbs _ => some rolOp
  | .rlaAbs _ => some rlaOp
  | .bmi _ => some bmiOp
  | .andIzy _ => some andOp
  | .unk32 => none
  | .rlaIzy _ => some rlaOp
  | .nopZpx34 _ => some nopOp
  | .andZpx _ => some andOp
  | .rolZpx _ => some rolOp
  | .rlaZpx _ => some rlaOp
  | .sec => some secOp
  | .andAby _ => some andOp
  | .nop3A => some nopOp
  | .rlaAby _ => some rlaOp
  | .nopAbx3C _ => some nopOp
  | .andAbx _ => some andOp
  | .rolAbx _ => some rolOp
  | .rlaAbx _ => some rlaOp
  | .rti => some rtiOp
  | .eorIzx _ => some eorOp
  | .unk42 => none
  | .sreIzx _ => some sreOp
  | .nopZp44 _ => some nopOp
  | .eorZp _ => some eorOp
  | .lsrZp _ => some lsrOp
  | .sreZp _ => some sreOp
  | .pha => some phaOp
  | .eorImm _ => some eorOp
  | .lsrA => some lsrAOp
  | .alrImm _ => some alrOp
  | .jmpAbs _ => some jmpOp
  | .eorAbs _ => some eorOp
  | .lsrAbs _ => some lsrOp
  | .sreAbs _ => some sreOp
  | .bvc _ => some bvcOp
  | .eorIzy _ => some eorOp
  | .unk52 => none
  | .sreIzy _ => some sreOp
  | .nopZpx54 _ => some nopOp
  | .eorZpx _ => some eorOp
  | .lsrZpx _ => some lsrOp
  | .sreZpx _ => some sreOp
  | .cli => some cliOp
  | .eorAby _ => some eorOp
  | .nop5A => some nopOp
  | .sreAby _ => some sreOp
  | .nopAbx5C _ => some nopOp
  | .eorAbx _ => some eorOp
  | .lsrAbx _ => some lsrOp
  | .sreAbx _ => some sreOp
  | .rts => some rtsOp
  | .adcIzx _ => some adcOp
  | .unk62 => none
  | .rraIzx _ => some rraOp
  | .nopZp64 _ => some nopOp
  | .adcZp _ => some adcOp
  | .rorZp _ => some rorOp
  | .rraZp _ => some rraOp
  | .pla => some plaOp
  | .adcImm _ => some adcOp
  | .rorA => some rorAOp
  | .arrImm _ => some arrOp
  | .jmpInd _ => some jmpOp
  | .adcAbs _ => some adcOp
  | .rorAbs _ => some rorOp
  | .rraAbs _ => some rraOp
  | .bvs _ => some bvsOp
  | .adcIzy _ => some adcOp
  | .unk72 => none
  | .rraIzy _ => some rraOp
  | .nopZpx74 _ => some nopOp
  | .adcZpx _ => some adcOp
  | .rorZpx _ => some rorOp
  | .rraZpx _ => some rraOp
  | .sei => some seiOp
  | .adcAby _ => some adcOp
  | .nop7A => some nopOp
  | .rraAby _ => some rraOp
  | .nopAbx7C _ => some nopOp
  | .adcAbx _ => some adcOp
  | .rorAbx _ => some rorOp
  | .rraAbx _ => some rraOp
  | .nopImm80 _ => some nopOp
  | .staIzx _ => some staOp
  | .nopImm82 _ => some nopOp
  | .saxIzx _ => some saxOp
  | .styZp _ => some styOp
  | .staZp _ => some staOp
  | .stxZp _ => some stxOp
  | .saxZp _ => some saxOp
  | .dey => some deyOp
  | .nopImm89 _ => some nopOp
  | .txa => some txaOp
  | .unk8B => none
  | .styAbs _ => some styOp
  | .staAbs _ => some staOp
  | .stxAbs _ => some stxOp
  | .saxAbs _ => some saxOp
  | .bcc _ => some bccOp
  | .staIzy _ => some staOp
  | .unk92 => none
  | .unk93 => none
  | .styZpx _ => some styOp
  | .staZpx _ => some staOp
  | .stxZpy _ => some stxOp
  | .saxZpy _ => some saxOp
  | .tya => some tyaOp
  | .staAby _ => some staOp
  | .txs => some txsOp
  | .unk9B => none
  | .shyAbx _ => some shyOp
  | .staAbx _ => some staOp
  | .shxAby _ => some shxOp
  | .unk9F => none
  | .ldyImm _ => some ldyOp
  | .ldaIzx _ => some ldaOp
  | .ldxImm _ => some ldxOp
  | .laxIzx _ => some laxOp
  | .ldyZp _ => some ldyOp
  | .ldaZp _ => some ldaOp
  | .ldxZp _ => some ldxOp
  | .laxZp _ => some laxOp
  | .tay => some tayOp
  | .ldaImm _ => some ldaOp
  | .tax => some taxOp
  | .unkAB => none
  | .ldyAbs _ => some ldyOp
  | .ldaAbs _ => some ldaOp
  | .ldxAbs _ => some ldxOp
  | .laxAbs _ => some laxOp
  | .bcs _ => some bcsOp
  | .ldaIzy _ => some ldaOp
  | .unkB2 => none
  | .laxIzy _ => some laxOp
  | .ldyZpx _ => some ldyOp
  | .ldaZpx _ => some ldaOp
  | .ldxZpy _ => some ldxOp
  | .laxZpy _ => some laxOp
  | .clv => some clvOp
  | .ldaAby _ => some ldaOp
  | .tsx => some tsxOp
  | .unkBB => none
  | .ldyAbx _ => some ldyOp
  | .ldaAbx _ => some ldaOp
  | .ldxAby _ => some ldxOp
  | .laxAby _ => some laxOp
  | .cpyImm _ => some cpyOp
  | .cmpIzx _ => some cmpOp
  | .nopImmC2 _ => some nopOp
  | .dcpIzx _ => some dcpOp
  | .cpyZp _ => some cpyOp
  | .cmpZp _ => some cmpOp
  | .decZp _ => some decOp
  | .dcpZp _ => some dcpOp
  | .iny => some inyOp
  | .cmpImm _ => some cmpOp
  | .dex => some dexOp
  | .axsImm _ => some axsOp
  | .cpyAbs _ => some cpyOp
  | .cmpAbs _ => some cmpOp
  | .decAbs _ => some decOp
  | .dcpAbs _ => some dcpOp
  | .bne _ => some bneOp
  | .cmpIzy _ => some cmpOp
  | .unkD2 => none
  | .dcpIzy _ => some dcpOp
  | .nopZpxD4 _ => some nopOp
  | .cmpZpx _ => some cmpOp
  | .decZpx _ => some decOp
  | .dcpZpx _ => some dcpOp
  | .cld => some cldOp
  | .cmpAby _ => some cmpOp
  | .nopDA => some nopOp
  | .dcpAby _ => some dcpOp
  | .nopAbxDC _ => some nopOp
  | .cmpAbx _ => some cmpOp
  | .decAbx _ => some decOp
  | .dcpAbx _ => some dcpOp
  | .cpxImm _ => some cpxOp
  | .sbcIzx _ => some sbcOp
  | .nopImmE2 _ => some nopOp
  | .iscIzx _ => some iscOp
  | .cpxZp _ => some cpxOp
  | .sbcZp _ => some sbcOp
  | .incZp _ => some incOp
  | .iscZp _ => some iscOp
  | .inx => some inxOp
  | .sbcImm _ => some sbcOp
  | .nop => some nopOp
  | .sbcImmEB _ => some sbcOp
  | .cpxAbs _ => some cpxOp
  | .sbcAbs _ => some sbcOp
  | .incAbs _ => some incOp
  | .iscAbs _ => some iscOp
  | .beq _ => some beqOp
  | .sbcIzy _ => some sbcOp
  | .unkF2 => none
  | .iscIzy _ => some iscOp
  | .nopZpxF4 _ => some nopOp
  | .sbcZpx _ => some sbcOp
  | .incZpx _ => some incOp
  | .iscZpx _ => some iscOp
  | .sed => some sedOp
  | .sbcAby _ => some sbcOp
  | .nopFA => some nopOp
  | .iscAby _ => some iscOp
  | .nopAbxFC _ => some nopOp
  | .sbcAbx _ => some sbcOp
  | .incAbx _ => some incOp
  | .iscAbx _ => some iscOp

/-- Every arm of `exec`, in one equation. -/
theorem exec_eq (i : Instr) (s : State) :
    exec i s = match behaviourOf i with
      | some f => instrTick i f s
      | none => unknownOpcode s := by
  cases i <;> rfl

/-- The fatal core error, the only value of its parameter (92_eei_decisions.md D3). -/
theorem unknownOpcode_eq (s : State) : unknownOpcode s = .fault (.unknownOpcode (s.pc - 1) s) := by
  simp only [unknownOpcode]

/-- The UNK rows are the ones without a behaviour. -/
theorem behaviourOf_none_iff (i : Instr) : behaviourOf i = none ↔ i.row.mnemonic = "UNK" := by
  cases i <;> simp [behaviourOf, Instr.row]

/-- A next state comes from the row's behaviour. -/
theorem exec_next {i : Instr} {s t : State} (h : exec i s = .next t) :
    ∃ f, behaviourOf i = some f ∧
      t = (f (addressed i s).1 (addressed i s).2).addWait i.row.cycles := by
  rw [exec_eq] at h
  split at h
  · rename_i f hf
    exact ⟨f, hf, by simpa [instrTick, eq_comm] using h⟩
  · simp [unknownOpcode_eq] at h

/-- A fault is the fatal core error, in the state given. -/
theorem exec_fault {i : Instr} {s : State} {r : Fault} (h : exec i s = .fault r) :
    behaviourOf i = none ∧ r = .unknownOpcode (s.pc - 1) s := by
  rw [exec_eq] at h
  split at h
  · simp [instrTick] at h
  · rename_i hf
    exact ⟨hf, by simpa [unknownOpcode_eq, eq_comm] using h⟩

/-- No instruction is refused. -/
theorem exec_not_refused (i : Instr) (s : State) (r : Refusal) : exec i s ≠ .refused r := by
  rw [exec_eq]
  split
  · simp [instrTick]
  · simp [unknownOpcode_eq]

/-- `t` is `s` after some register writes and bus accesses: what no behaviour changes is the same. -/
structure Touches (s t : State) : Prop where
  pendingIrq : t.pendingIrq = s.pendingIrq
  pendingNmi : t.pendingNmi = s.pendingNmi
  decimalDisabled : t.decimalDisabled = s.decimalDisabled
  debugOn : t.debugOn = s.debugOn
  params : t.params = s.params
  tickers : t.tickers = s.tickers
  tickCount : t.tickCount = s.tickCount
  trace : t.trace = s.trace
  devices : Accessed s.devices t.devices

theorem Touches.refl (s : State) : Touches s s := ⟨rfl, rfl, rfl, rfl, rfl, rfl, rfl, rfl, Accessed.refl _⟩

theorem Touches.trans {s t u : State} (h : Touches s t) (h' : Touches t u) : Touches s u :=
  ⟨h'.pendingIrq.trans h.pendingIrq, h'.pendingNmi.trans h.pendingNmi,
    h'.decimalDisabled.trans h.decimalDisabled, h'.debugOn.trans h.debugOn, h'.params.trans h.params,
    h'.tickers.trans h.tickers, h'.tickCount.trans h.tickCount, h'.trace.trans h.trace,
    h.devices.trans h'.devices⟩

theorem setA_touches (s : State) (v : Byte) : Touches s (s.setA v) :=
  ⟨rfl, rfl, rfl, rfl, rfl, rfl, rfl, rfl, Accessed.refl _⟩
theorem setX_touches (s : State) (v : Byte) : Touches s (s.setX v) :=
  ⟨rfl, rfl, rfl, rfl, rfl, rfl, rfl, rfl, Accessed.refl _⟩
theorem setY_touches (s : State) (v : Byte) : Touches s (s.setY v) :=
  ⟨rfl, rfl, rfl, rfl, rfl, rfl, rfl, rfl, Accessed.refl _⟩
theorem setSp_touches (s : State) (v : Byte) : Touches s (s.setSp v) :=
  ⟨rfl, rfl, rfl, rfl, rfl, rfl, rfl, rfl, Accessed.refl _⟩
theorem setP_touches (s : State) (v : Byte) : Touches s (s.setP v) :=
  ⟨rfl, rfl, rfl, rfl, rfl, rfl, rfl, rfl, Accessed.refl _⟩
theorem setPc_touches (s : State) (v : Word) : Touches s (s.setPc v) :=
  ⟨rfl, rfl, rfl, rfl, rfl, rfl, rfl, rfl, Accessed.refl _⟩
theorem addWait_touches (s : State) (n : Nat) : Touches s (s.addWait n) :=
  ⟨rfl, rfl, rfl, rfl, rfl, rfl, rfl, rfl, Accessed.refl _⟩
theorem setNZ_touches (s : State) (v : Byte) : Touches s (s.setNZ v) := setP_touches _ _
theorem setFlag_touches (s : State) (f : Flag) (b : Bool) : Touches s (s.setFlag f b) := setP_touches _ _
theorem memRead_touches (s : State) (a : Word) : Touches s (s.memRead a).2 :=
  ⟨rfl, rfl, rfl, rfl, rfl, rfl, rfl, rfl, s.memRead_accessed a⟩
theorem memWrite_touches (s : State) (a : Word) (v : Byte) : Touches s (s.memWrite a v) :=
  ⟨rfl, rfl, rfl, rfl, rfl, rfl, rfl, rfl, s.memWrite_accessed a v⟩
theorem push8_touches (s : State) (v : Byte) : Touches s (s.push8 v) :=
  ⟨rfl, rfl, rfl, rfl, rfl, rfl, rfl, rfl, s.push8_accessed v⟩
theorem push16_touches (s : State) (w : Word) : Touches s (s.push16 w) :=
  (push8_touches _ _).trans (push8_touches _ _)
theorem pop8_touches (s : State) : Touches s s.pop8.2 :=
  ⟨rfl, rfl, rfl, rfl, rfl, rfl, rfl, rfl, s.pop8_accessed⟩
theorem pop16_touches (s : State) : Touches s s.pop16.2 := (pop8_touches _).trans (pop8_touches _)
theorem enterHandler_touches (s : State) (ret : Word) (b : Bool) (vec : Word) :
    Touches s (s.enterHandler ret b vec) :=
  ⟨by simp, by simp, by simp, by simp, by simp, by simp, by simp, by simp, s.enterHandler_accessed ret b vec⟩
theorem returnFromHandler_touches (s : State) : Touches s s.returnFromHandler :=
  ⟨by simp, by simp, by simp, by simp, by simp, by simp, by simp, by simp, s.returnFromHandler_accessed⟩
theorem fetchByte_touches (s : State) : Touches s s.fetchByte.2 :=
  (memRead_touches s s.pc).trans (setPc_touches _ _)
theorem fetch_touches (s : State) : Touches s s.fetch.2 := by
  have h0 := fetchByte_touches s
  have h1 := fetchByte_touches s.fetchByte.2
  have h2 := fetchByte_touches s.fetchByte.2.fetchByte.2
  simp only [State.fetch]
  split
  · exact h0
  · exact h0.trans h1
  · exact (h0.trans h1).trans h2
theorem addressed_touches (i : Instr) (s : State) : Touches s (addressed i s).2 := by
  obtain ⟨ds, w, h, ha, -, -⟩ := addressed_cases i s
  rw [h]
  exact ⟨rfl, rfl, rfl, rfl, rfl, rfl, rfl, rfl, ha⟩

theorem shiftA_touches (f : Shift) (s : State) : Touches s (shiftA f s) :=
  ((setFlag_touches _ _ _).trans (setA_touches _ _)).trans (setNZ_touches _ _)
theorem shiftMem_touches (f : Shift) (ea : Word) (s : State) : Touches s (shiftMem f ea s) :=
  ((((memRead_touches _ _).trans (setFlag_touches _ _ _)).trans (memWrite_touches _ _ _)).trans
    (memRead_touches _ _)).trans (setNZ_touches _ _)
theorem stepMem_touches (f : Byte → Byte) (ea : Word) (s : State) : Touches s (stepMem f ea s) := by
  have h := (memRead_touches s ea).trans (memWrite_touches _ ea (f (s.memRead ea).1))
  simp only [stepMem]
  split
  · exact h.trans (setNZ_touches _ _)
  · exact (h.trans (memRead_touches _ _)).trans (setNZ_touches _ _)
theorem compareAt_touches (r : Byte) (ea : Word) (s : State) : Touches s (compareAt r ea s) :=
  (memRead_touches _ _).trans (setP_touches _ _)
theorem addByte_touches (m : Byte) (s : State) : Touches s (addByte m s) :=
  (setA_touches _ _).trans (setP_touches _ _)
theorem subByte_touches (m : Byte) (s : State) : Touches s (subByte m s) :=
  (setA_touches _ _).trans (setP_touches _ _)
theorem branchIf_touches (c : Bool) (ea : Word) (s : State) : Touches s (branchIf c ea s) := by
  simp only [branchIf]
  split
  · split
    · exact (addWait_touches _ _).trans (setPc_touches _ _)
    · exact setPc_touches _ _
  · exact Touches.refl _

theorem ldaOp_touches (ea : Word) (s : State) : Touches s (ldaOp ea s) :=
  ((memRead_touches _ _).trans (setA_touches _ _)).trans (setNZ_touches _ _)
theorem ldxOp_touches (ea : Word) (s : State) : Touches s (ldxOp ea s) :=
  ((memRead_touches _ _).trans (setX_touches _ _)).trans (setNZ_touches _ _)
theorem ldyOp_touches (ea : Word) (s : State) : Touches s (ldyOp ea s) :=
  ((memRead_touches _ _).trans (setY_touches _ _)).trans (setNZ_touches _ _)
theorem staOp_touches (ea : Word) (s : State) : Touches s (staOp ea s) :=
  memWrite_touches _ _ _
theorem stxOp_touches (ea : Word) (s : State) : Touches s (stxOp ea s) :=
  memWrite_touches _ _ _
theorem styOp_touches (ea : Word) (s : State) : Touches s (styOp ea s) :=
  memWrite_touches _ _ _
theorem taxOp_touches (ea : Word) (s : State) : Touches s (taxOp ea s) :=
  (setX_touches _ _).trans (setNZ_touches _ _)
theorem txaOp_touches (ea : Word) (s : State) : Touches s (txaOp ea s) :=
  (setA_touches _ _).trans (setNZ_touches _ _)
theorem tayOp_touches (ea : Word) (s : State) : Touches s (tayOp ea s) :=
  (setY_touches _ _).trans (setNZ_touches _ _)
theorem tyaOp_touches (ea : Word) (s : State) : Touches s (tyaOp ea s) :=
  (setA_touches _ _).trans (setNZ_touches _ _)
theorem tsxOp_touches (ea : Word) (s : State) : Touches s (tsxOp ea s) :=
  (setX_touches _ _).trans (setNZ_touches _ _)
theorem txsOp_touches (ea : Word) (s : State) : Touches s (txsOp ea s) :=
  setSp_touches _ _
theorem adcOp_touches (ea : Word) (s : State) : Touches s (adcOp ea s) :=
  (memRead_touches _ _).trans (addByte_touches _ _)
theorem sbcOp_touches (ea : Word) (s : State) : Touches s (sbcOp ea s) :=
  (memRead_touches _ _).trans (subByte_touches _ _)
theorem andOp_touches (ea : Word) (s : State) : Touches s (andOp ea s) :=
  ((memRead_touches _ _).trans (setA_touches _ _)).trans (setNZ_touches _ _)
theorem oraOp_touches (ea : Word) (s : State) : Touches s (oraOp ea s) :=
  ((memRead_touches _ _).trans (setA_touches _ _)).trans (setNZ_touches _ _)
theorem eorOp_touches (ea : Word) (s : State) : Touches s (eorOp ea s) :=
  ((memRead_touches _ _).trans (setA_touches _ _)).trans (setNZ_touches _ _)
theorem bitOp_touches (ea : Word) (s : State) : Touches s (bitOp ea s) :=
  (((memRead_touches _ _).trans (setFlag_touches _ _ _)).trans (setFlag_touches _ _ _)).trans (setFlag_touches _ _ _)
theorem aslAOp_touches (ea : Word) (s : State) : Touches s (aslAOp ea s) :=
  shiftA_touches _ _
theorem aslOp_touches (ea : Word) (s : State) : Touches s (aslOp ea s) :=
  shiftMem_touches _ _ _
theorem lsrAOp_touches (ea : Word) (s : State) : Touches s (lsrAOp ea s) :=
  shiftA_touches _ _
theorem lsrOp_touches (ea : Word) (s : State) : Touches s (lsrOp ea s) :=
  shiftMem_touches _ _ _
theorem rolAOp_touches (ea : Word) (s : State) : Touches s (rolAOp ea s) :=
  shiftA_touches _ _
theorem rolOp_touches (ea : Word) (s : State) : Touches s (rolOp ea s) :=
  shiftMem_touches _ _ _
theorem rorAOp_touches (ea : Word) (s : State) : Touches s (rorAOp ea s) :=
  shiftA_touches _ _
theorem rorOp_touches (ea : Word) (s : State) : Touches s (rorOp ea s) :=
  shiftMem_touches _ _ _
theorem incOp_touches (ea : Word) (s : State) : Touches s (incOp ea s) :=
  stepMem_touches _ _ _
theorem decOp_touches (ea : Word) (s : State) : Touches s (decOp ea s) :=
  stepMem_touches _ _ _
theorem inxOp_touches (ea : Word) (s : State) : Touches s (inxOp ea s) :=
  (setX_touches _ _).trans (setNZ_touches _ _)
theorem inyOp_touches (ea : Word) (s : State) : Touches s (inyOp ea s) :=
  (setY_touches _ _).trans (setNZ_touches _ _)
theorem dexOp_touches (ea : Word) (s : State) : Touches s (dexOp ea s) :=
  (setX_touches _ _).trans (setNZ_touches _ _)
theorem deyOp_touches (ea : Word) (s : State) : Touches s (deyOp ea s) :=
  (setY_touches _ _).trans (setNZ_touches _ _)
theorem cmpOp_touches (ea : Word) (s : State) : Touches s (cmpOp ea s) :=
  compareAt_touches _ _ _
theorem cpxOp_touches (ea : Word) (s : State) : Touches s (cpxOp ea s) :=
  compareAt_touches _ _ _
theorem cpyOp_touches (ea : Word) (s : State) : Touches s (cpyOp ea s) :=
  compareAt_touches _ _ _
theorem jmpOp_touches (ea : Word) (s : State) : Touches s (jmpOp ea s) :=
  setPc_touches _ _
theorem jsrOp_touches (ea : Word) (s : State) : Touches s (jsrOp ea s) :=
  (push16_touches _ _).trans (setPc_touches _ _)
theorem rtsOp_touches (ea : Word) (s : State) : Touches s (rtsOp ea s) :=
  (pop16_touches _).trans (setPc_touches _ _)
theorem rtiOp_touches (ea : Word) (s : State) : Touches s (rtiOp ea s) :=
  returnFromHandler_touches _
theorem bplOp_touches (ea : Word) (s : State) : Touches s (bplOp ea s) :=
  branchIf_touches _ _ _
theorem bmiOp_touches (ea : Word) (s : State) : Touches s (bmiOp ea s) :=
  branchIf_touches _ _ _
theorem bvcOp_touches (ea : Word) (s : State) : Touches s (bvcOp ea s) :=
  branchIf_touches _ _ _
theorem bvsOp_touches (ea : Word) (s : State) : Touches s (bvsOp ea s) :=
  branchIf_touches _ _ _
theorem bccOp_touches (ea : Word) (s : State) : Touches s (bccOp ea s) :=
  branchIf_touches _ _ _
theorem bcsOp_touches (ea : Word) (s : State) : Touches s (bcsOp ea s) :=
  branchIf_touches _ _ _
theorem bneOp_touches (ea : Word) (s : State) : Touches s (bneOp ea s) :=
  branchIf_touches _ _ _
theorem beqOp_touches (ea : Word) (s : State) : Touches s (beqOp ea s) :=
  branchIf_touches _ _ _
theorem brkOp_touches (ea : Word) (s : State) : Touches s (brkOp ea s) :=
  enterHandler_touches _ _ _ _
theorem nopOp_touches (ea : Word) (s : State) : Touches s (nopOp ea s) :=
  Touches.refl _
theorem clcOp_touches (ea : Word) (s : State) : Touches s (clcOp ea s) :=
  setFlag_touches _ _ _
theorem secOp_touches (ea : Word) (s : State) : Touches s (secOp ea s) :=
  setFlag_touches _ _ _
theorem cliOp_touches (ea : Word) (s : State) : Touches s (cliOp ea s) :=
  setFlag_touches _ _ _
theorem seiOp_touches (ea : Word) (s : State) : Touches s (seiOp ea s) :=
  setFlag_touches _ _ _
theorem clvOp_touches (ea : Word) (s : State) : Touches s (clvOp ea s) :=
  setFlag_touches _ _ _
theorem cldOp_touches (ea : Word) (s : State) : Touches s (cldOp ea s) :=
  setFlag_touches _ _ _
theorem sedOp_touches (ea : Word) (s : State) : Touches s (sedOp ea s) :=
  setFlag_touches _ _ _
theorem phaOp_touches (ea : Word) (s : State) : Touches s (phaOp ea s) :=
  push8_touches _ _
theorem phpOp_touches (ea : Word) (s : State) : Touches s (phpOp ea s) :=
  push8_touches _ _
theorem plaOp_touches (ea : Word) (s : State) : Touches s (plaOp ea s) :=
  ((pop8_touches _).trans (setA_touches _ _)).trans (setNZ_touches _ _)
theorem plpOp_touches (ea : Word) (s : State) : Touches s (plpOp ea s) :=
  (pop8_touches _).trans (setP_touches _ _)
theorem sloOp_touches (ea : Word) (s : State) : Touches s (sloOp ea s) :=
  (aslOp_touches _ _).trans (oraOp_touches _ _)
theorem rlaOp_touches (ea : Word) (s : State) : Touches s (rlaOp ea s) :=
  (rolOp_touches _ _).trans (andOp_touches _ _)
theorem sreOp_touches (ea : Word) (s : State) : Touches s (sreOp ea s) :=
  (lsrOp_touches _ _).trans (eorOp_touches _ _)
theorem rraOp_touches (ea : Word) (s : State) : Touches s (rraOp ea s) :=
  (rorOp_touches _ _).trans (adcOp_touches _ _)
theorem dcpOp_touches (ea : Word) (s : State) : Touches s (dcpOp ea s) :=
  (decOp_touches _ _).trans (cmpOp_touches _ _)
theorem iscOp_touches (ea : Word) (s : State) : Touches s (iscOp ea s) :=
  (incOp_touches _ _).trans (sbcOp_touches _ _)
theorem laxOp_touches (ea : Word) (s : State) : Touches s (laxOp ea s) :=
  (ldaOp_touches _ _).trans (ldxOp_touches _ _)
theorem saxOp_touches (ea : Word) (s : State) : Touches s (saxOp ea s) :=
  memWrite_touches _ _ _
theorem ancOp_touches (ea : Word) (s : State) : Touches s (ancOp ea s) :=
  (andOp_touches _ _).trans (setFlag_touches _ _ _)
theorem alrOp_touches (ea : Word) (s : State) : Touches s (alrOp ea s) :=
  (andOp_touches _ _).trans (shiftA_touches _ _)
theorem arrOp_touches (ea : Word) (s : State) : Touches s (arrOp ea s) :=
  ((memRead_touches _ _).trans (setA_touches _ _)).trans (setP_touches _ _)
theorem axsOp_touches (ea : Word) (s : State) : Touches s (axsOp ea s) :=
  ((memRead_touches _ _).trans (setX_touches _ _)).trans (setP_touches _ _)
theorem shyOp_touches (ea : Word) (s : State) : Touches s (shyOp ea s) :=
  memWrite_touches _ _ _
theorem shxOp_touches (ea : Word) (s : State) : Touches s (shxOp ea s) :=
  memWrite_touches _ _ _

/-- Every behaviour keeps what `Touches` says. -/
theorem behaviourOf_touches {i : Instr} {f : Word → State → State} (h : behaviourOf i = some f) (ea : Word) (s : State) :
    Touches s (f ea s) := by
  cases i <;> simp only [behaviourOf, Option.some.injEq, reduceCtorEq] at h <;> subst h
  case brk => exact brkOp_touches ea s
  case oraIzx => exact oraOp_touches ea s
  case sloIzx => exact sloOp_touches ea s
  case nopZp04 => exact nopOp_touches ea s
  case oraZp => exact oraOp_touches ea s
  case aslZp => exact aslOp_touches ea s
  case sloZp => exact sloOp_touches ea s
  case php => exact phpOp_touches ea s
  case oraImm => exact oraOp_touches ea s
  case aslA => exact aslAOp_touches ea s
  case ancImm0B => exact ancOp_touches ea s
  case nopAbs0C => exact nopOp_touches ea s
  case oraAbs => exact oraOp_touches ea s
  case aslAbs => exact aslOp_touches ea s
  case sloAbs => exact sloOp_touches ea s
  case bpl => exact bplOp_touches ea s
  case oraIzy => exact oraOp_touches ea s
  case sloIzy => exact sloOp_touches ea s
  case nopZpx14 => exact nopOp_touches ea s
  case oraZpx => exact oraOp_touches ea s
  case aslZpx => exact aslOp_touches ea s
  case sloZpx => exact sloOp_touches ea s
  case clc => exact clcOp_touches ea s
  case oraAby => exact oraOp_touches ea s
  case nop1A => exact nopOp_touches ea s
  case sloAby => exact sloOp_touches ea s
  case nopAbx1C => exact nopOp_touches ea s
  case oraAbx => exact oraOp_touches ea s
  case aslAbx => exact aslOp_touches ea s
  case sloAbx => exact sloOp_touches ea s
  case jsr => exact jsrOp_touches ea s
  case andIzx => exact andOp_touches ea s
  case rlaIzx => exact rlaOp_touches ea s
  case bitZp => exact bitOp_touches ea s
  case andZp => exact andOp_touches ea s
  case rolZp => exact rolOp_touches ea s
  case rlaZp => exact rlaOp_touches ea s
  case plp => exact plpOp_touches ea s
  case andImm => exact andOp_touches ea s
  case rolA => exact rolAOp_touches ea s
  case ancImm2B => exact ancOp_touches ea s
  case bitAbs => exact bitOp_touches ea s
  case andAbs => exact andOp_touches ea s
  case rolAbs => exact rolOp_touches ea s
  case rlaAbs => exact rlaOp_touches ea s
  case bmi => exact bmiOp_touches ea s
  case andIzy => exact andOp_touches ea s
  case rlaIzy => exact rlaOp_touches ea s
  case nopZpx34 => exact nopOp_touches ea s
  case andZpx => exact andOp_touches ea s
  case rolZpx => exact rolOp_touches ea s
  case rlaZpx => exact rlaOp_touches ea s
  case sec => exact secOp_touches ea s
  case andAby => exact andOp_touches ea s
  case nop3A => exact nopOp_touches ea s
  case rlaAby => exact rlaOp_touches ea s
  case nopAbx3C => exact nopOp_touches ea s
  case andAbx => exact andOp_touches ea s
  case rolAbx => exact rolOp_touches ea s
  case rlaAbx => exact rlaOp_touches ea s
  case rti => exact rtiOp_touches ea s
  case eorIzx => exact eorOp_touches ea s
  case sreIzx => exact sreOp_touches ea s
  case nopZp44 => exact nopOp_touches ea s
  case eorZp => exact eorOp_touches ea s
  case lsrZp => exact lsrOp_touches ea s
  case sreZp => exact sreOp_touches ea s
  case pha => exact phaOp_touches ea s
  case eorImm => exact eorOp_touches ea s
  case lsrA => exact lsrAOp_touches ea s
  case alrImm => exact alrOp_touches ea s
  case jmpAbs => exact jmpOp_touches ea s
  case eorAbs => exact eorOp_touches ea s
  case lsrAbs => exact lsrOp_touches ea s
  case sreAbs => exact sreOp_touches ea s
  case bvc => exact bvcOp_touches ea s
  case eorIzy => exact eorOp_touches ea s
  case sreIzy => exact sreOp_touches ea s
  case nopZpx54 => exact nopOp_touches ea s
  case eorZpx => exact eorOp_touches ea s
  case lsrZpx => exact lsrOp_touches ea s
  case sreZpx => exact sreOp_touches ea s
  case cli => exact cliOp_touches ea s
  case eorAby => exact eorOp_touches ea s
  case nop5A => exact nopOp_touches ea s
  case sreAby => exact sreOp_touches ea s
  case nopAbx5C => exact nopOp_touches ea s
  case eorAbx => exact eorOp_touches ea s
  case lsrAbx => exact lsrOp_touches ea s
  case sreAbx => exact sreOp_touches ea s
  case rts => exact rtsOp_touches ea s
  case adcIzx => exact adcOp_touches ea s
  case rraIzx => exact rraOp_touches ea s
  case nopZp64 => exact nopOp_touches ea s
  case adcZp => exact adcOp_touches ea s
  case rorZp => exact rorOp_touches ea s
  case rraZp => exact rraOp_touches ea s
  case pla => exact plaOp_touches ea s
  case adcImm => exact adcOp_touches ea s
  case rorA => exact rorAOp_touches ea s
  case arrImm => exact arrOp_touches ea s
  case jmpInd => exact jmpOp_touches ea s
  case adcAbs => exact adcOp_touches ea s
  case rorAbs => exact rorOp_touches ea s
  case rraAbs => exact rraOp_touches ea s
  case bvs => exact bvsOp_touches ea s
  case adcIzy => exact adcOp_touches ea s
  case rraIzy => exact rraOp_touches ea s
  case nopZpx74 => exact nopOp_touches ea s
  case adcZpx => exact adcOp_touches ea s
  case rorZpx => exact rorOp_touches ea s
  case rraZpx => exact rraOp_touches ea s
  case sei => exact seiOp_touches ea s
  case adcAby => exact adcOp_touches ea s
  case nop7A => exact nopOp_touches ea s
  case rraAby => exact rraOp_touches ea s
  case nopAbx7C => exact nopOp_touches ea s
  case adcAbx => exact adcOp_touches ea s
  case rorAbx => exact rorOp_touches ea s
  case rraAbx => exact rraOp_touches ea s
  case nopImm80 => exact nopOp_touches ea s
  case staIzx => exact staOp_touches ea s
  case nopImm82 => exact nopOp_touches ea s
  case saxIzx => exact saxOp_touches ea s
  case styZp => exact styOp_touches ea s
  case staZp => exact staOp_touches ea s
  case stxZp => exact stxOp_touches ea s
  case saxZp => exact saxOp_touches ea s
  case dey => exact deyOp_touches ea s
  case nopImm89 => exact nopOp_touches ea s
  case txa => exact txaOp_touches ea s
  case styAbs => exact styOp_touches ea s
  case staAbs => exact staOp_touches ea s
  case stxAbs => exact stxOp_touches ea s
  case saxAbs => exact saxOp_touches ea s
  case bcc => exact bccOp_touches ea s
  case staIzy => exact staOp_touches ea s
  case styZpx => exact styOp_touches ea s
  case staZpx => exact staOp_touches ea s
  case stxZpy => exact stxOp_touches ea s
  case saxZpy => exact saxOp_touches ea s
  case tya => exact tyaOp_touches ea s
  case staAby => exact staOp_touches ea s
  case txs => exact txsOp_touches ea s
  case shyAbx => exact shyOp_touches ea s
  case staAbx => exact staOp_touches ea s
  case shxAby => exact shxOp_touches ea s
  case ldyImm => exact ldyOp_touches ea s
  case ldaIzx => exact ldaOp_touches ea s
  case ldxImm => exact ldxOp_touches ea s
  case laxIzx => exact laxOp_touches ea s
  case ldyZp => exact ldyOp_touches ea s
  case ldaZp => exact ldaOp_touches ea s
  case ldxZp => exact ldxOp_touches ea s
  case laxZp => exact laxOp_touches ea s
  case tay => exact tayOp_touches ea s
  case ldaImm => exact ldaOp_touches ea s
  case tax => exact taxOp_touches ea s
  case ldyAbs => exact ldyOp_touches ea s
  case ldaAbs => exact ldaOp_touches ea s
  case ldxAbs => exact ldxOp_touches ea s
  case laxAbs => exact laxOp_touches ea s
  case bcs => exact bcsOp_touches ea s
  case ldaIzy => exact ldaOp_touches ea s
  case laxIzy => exact laxOp_touches ea s
  case ldyZpx => exact ldyOp_touches ea s
  case ldaZpx => exact ldaOp_touches ea s
  case ldxZpy => exact ldxOp_touches ea s
  case laxZpy => exact laxOp_touches ea s
  case clv => exact clvOp_touches ea s
  case ldaAby => exact ldaOp_touches ea s
  case tsx => exact tsxOp_touches ea s
  case ldyAbx => exact ldyOp_touches ea s
  case ldaAbx => exact ldaOp_touches ea s
  case ldxAby => exact ldxOp_touches ea s
  case laxAby => exact laxOp_touches ea s
  case cpyImm => exact cpyOp_touches ea s
  case cmpIzx => exact cmpOp_touches ea s
  case nopImmC2 => exact nopOp_touches ea s
  case dcpIzx => exact dcpOp_touches ea s
  case cpyZp => exact cpyOp_touches ea s
  case cmpZp => exact cmpOp_touches ea s
  case decZp => exact decOp_touches ea s
  case dcpZp => exact dcpOp_touches ea s
  case iny => exact inyOp_touches ea s
  case cmpImm => exact cmpOp_touches ea s
  case dex => exact dexOp_touches ea s
  case axsImm => exact axsOp_touches ea s
  case cpyAbs => exact cpyOp_touches ea s
  case cmpAbs => exact cmpOp_touches ea s
  case decAbs => exact decOp_touches ea s
  case dcpAbs => exact dcpOp_touches ea s
  case bne => exact bneOp_touches ea s
  case cmpIzy => exact cmpOp_touches ea s
  case dcpIzy => exact dcpOp_touches ea s
  case nopZpxD4 => exact nopOp_touches ea s
  case cmpZpx => exact cmpOp_touches ea s
  case decZpx => exact decOp_touches ea s
  case dcpZpx => exact dcpOp_touches ea s
  case cld => exact cldOp_touches ea s
  case cmpAby => exact cmpOp_touches ea s
  case nopDA => exact nopOp_touches ea s
  case dcpAby => exact dcpOp_touches ea s
  case nopAbxDC => exact nopOp_touches ea s
  case cmpAbx => exact cmpOp_touches ea s
  case decAbx => exact decOp_touches ea s
  case dcpAbx => exact dcpOp_touches ea s
  case cpxImm => exact cpxOp_touches ea s
  case sbcIzx => exact sbcOp_touches ea s
  case nopImmE2 => exact nopOp_touches ea s
  case iscIzx => exact iscOp_touches ea s
  case cpxZp => exact cpxOp_touches ea s
  case sbcZp => exact sbcOp_touches ea s
  case incZp => exact incOp_touches ea s
  case iscZp => exact iscOp_touches ea s
  case inx => exact inxOp_touches ea s
  case sbcImm => exact sbcOp_touches ea s
  case nop => exact nopOp_touches ea s
  case sbcImmEB => exact sbcOp_touches ea s
  case cpxAbs => exact cpxOp_touches ea s
  case sbcAbs => exact sbcOp_touches ea s
  case incAbs => exact incOp_touches ea s
  case iscAbs => exact iscOp_touches ea s
  case beq => exact beqOp_touches ea s
  case sbcIzy => exact sbcOp_touches ea s
  case iscIzy => exact iscOp_touches ea s
  case nopZpxF4 => exact nopOp_touches ea s
  case sbcZpx => exact sbcOp_touches ea s
  case incZpx => exact incOp_touches ea s
  case iscZpx => exact iscOp_touches ea s
  case sed => exact sedOp_touches ea s
  case sbcAby => exact sbcOp_touches ea s
  case nopFA => exact nopOp_touches ea s
  case iscAby => exact iscOp_touches ea s
  case nopAbxFC => exact nopOp_touches ea s
  case sbcAbx => exact sbcOp_touches ea s
  case incAbx => exact incOp_touches ea s
  case iscAbx => exact iscOp_touches ea s

/-- What no instruction changes (10_state.md R44): the latches, the configuration, the tickers, the counter, the trace. -/
theorem exec_touches {i : Instr} {s t : State} (h : exec i s = .next t) : Touches s t := by
  obtain ⟨f, hf, rfl⟩ := exec_next h
  exact ((addressed_touches i s).trans (behaviourOf_touches hf _ _)).trans (addWait_touches _ _)

end Sys2Proof.Machine
end

