-- ==== Sys2Proof/Laws/PerInstr.lean ====
section
/-! SUPPORT. Statements about every instruction as syntax, made per constructor. The family OneOpcode: an instruction
is encoded as its row's one opcode byte and then the operand bytes of its row's mode (30_encoding.md R80). -/

/-- One opcode byte, the row's, leads the encoding; as many operand bytes follow as the row's mode takes. -/
def Sys2Proof.Laws.OneOpcode.Statement (i : Sys2Proof.Instr) : Prop :=
  (Sys2Proof.encode i).head? = some i.row.opcode ∧ (Sys2Proof.encode i).length = 1 + i.row.mode.operandBytes

open Sys2Proof Sys2Proof.Laws.OneOpcode

theorem Sys2Proof.Laws.OneOpcode.brk : Statement .brk := ⟨rfl, rfl⟩
theorem Sys2Proof.Laws.OneOpcode.oraIzx (op8 : Byte) : Statement (.oraIzx op8) := ⟨rfl, rfl⟩
theorem Sys2Proof.Laws.OneOpcode.unk02 : Statement .unk02 := ⟨rfl, rfl⟩
theorem Sys2Proof.Laws.OneOpcode.sloIzx (op8 : Byte) : Statement (.sloIzx op8) := ⟨rfl, rfl⟩
theorem Sys2Proof.Laws.OneOpcode.nopZp04 (op8 : Byte) : Statement (.nopZp04 op8) := ⟨rfl, rfl⟩
theorem Sys2Proof.Laws.OneOpcode.oraZp (op8 : Byte) : Statement (.oraZp op8) := ⟨rfl, rfl⟩
theorem Sys2Proof.Laws.OneOpcode.aslZp (op8 : Byte) : Statement (.aslZp op8) := ⟨rfl, rfl⟩
theorem Sys2Proof.Laws.OneOpcode.sloZp (op8 : Byte) : Statement (.sloZp op8) := ⟨rfl, rfl⟩
theorem Sys2Proof.Laws.OneOpcode.php : Statement .php := ⟨rfl, rfl⟩
theorem Sys2Proof.Laws.OneOpcode.oraImm (op8 : Byte) : Statement (.oraImm op8) := ⟨rfl, rfl⟩
theorem Sys2Proof.Laws.OneOpcode.aslA : Statement .aslA := ⟨rfl, rfl⟩
theorem Sys2Proof.Laws.OneOpcode.ancImm0B (op8 : Byte) : Statement (.ancImm0B op8) := ⟨rfl, rfl⟩
theorem Sys2Proof.Laws.OneOpcode.nopAbs0C (op16 : Word) : Statement (.nopAbs0C op16) := ⟨rfl, rfl⟩
theorem Sys2Proof.Laws.OneOpcode.oraAbs (op16 : Word) : Statement (.oraAbs op16) := ⟨rfl, rfl⟩
theorem Sys2Proof.Laws.OneOpcode.aslAbs (op16 : Word) : Statement (.aslAbs op16) := ⟨rfl, rfl⟩
theorem Sys2Proof.Laws.OneOpcode.sloAbs (op16 : Word) : Statement (.sloAbs op16) := ⟨rfl, rfl⟩
theorem Sys2Proof.Laws.OneOpcode.bpl (op8 : Byte) : Statement (.bpl op8) := ⟨rfl, rfl⟩
theorem Sys2Proof.Laws.OneOpcode.oraIzy (op8 : Byte) : Statement (.oraIzy op8) := ⟨rfl, rfl⟩
theorem Sys2Proof.Laws.OneOpcode.unk12 : Statement .unk12 := ⟨rfl, rfl⟩
theorem Sys2Proof.Laws.OneOpcode.sloIzy (op8 : Byte) : Statement (.sloIzy op8) := ⟨rfl, rfl⟩
theorem Sys2Proof.Laws.OneOpcode.nopZpx14 (op8 : Byte) : Statement (.nopZpx14 op8) := ⟨rfl, rfl⟩
theorem Sys2Proof.Laws.OneOpcode.oraZpx (op8 : Byte) : Statement (.oraZpx op8) := ⟨rfl, rfl⟩
theorem Sys2Proof.Laws.OneOpcode.aslZpx (op8 : Byte) : Statement (.aslZpx op8) := ⟨rfl, rfl⟩
theorem Sys2Proof.Laws.OneOpcode.sloZpx (op8 : Byte) : Statement (.sloZpx op8) := ⟨rfl, rfl⟩
theorem Sys2Proof.Laws.OneOpcode.clc : Statement .clc := ⟨rfl, rfl⟩
theorem Sys2Proof.Laws.OneOpcode.oraAby (op16 : Word) : Statement (.oraAby op16) := ⟨rfl, rfl⟩
theorem Sys2Proof.Laws.OneOpcode.nop1A : Statement .nop1A := ⟨rfl, rfl⟩
theorem Sys2Proof.Laws.OneOpcode.sloAby (op16 : Word) : Statement (.sloAby op16) := ⟨rfl, rfl⟩
theorem Sys2Proof.Laws.OneOpcode.nopAbx1C (op16 : Word) : Statement (.nopAbx1C op16) := ⟨rfl, rfl⟩
theorem Sys2Proof.Laws.OneOpcode.oraAbx (op16 : Word) : Statement (.oraAbx op16) := ⟨rfl, rfl⟩
theorem Sys2Proof.Laws.OneOpcode.aslAbx (op16 : Word) : Statement (.aslAbx op16) := ⟨rfl, rfl⟩
theorem Sys2Proof.Laws.OneOpcode.sloAbx (op16 : Word) : Statement (.sloAbx op16) := ⟨rfl, rfl⟩
theorem Sys2Proof.Laws.OneOpcode.jsr (op16 : Word) : Statement (.jsr op16) := ⟨rfl, rfl⟩
theorem Sys2Proof.Laws.OneOpcode.andIzx (op8 : Byte) : Statement (.andIzx op8) := ⟨rfl, rfl⟩
theorem Sys2Proof.Laws.OneOpcode.unk22 : Statement .unk22 := ⟨rfl, rfl⟩
theorem Sys2Proof.Laws.OneOpcode.rlaIzx (op8 : Byte) : Statement (.rlaIzx op8) := ⟨rfl, rfl⟩
theorem Sys2Proof.Laws.OneOpcode.bitZp (op8 : Byte) : Statement (.bitZp op8) := ⟨rfl, rfl⟩
theorem Sys2Proof.Laws.OneOpcode.andZp (op8 : Byte) : Statement (.andZp op8) := ⟨rfl, rfl⟩
theorem Sys2Proof.Laws.OneOpcode.rolZp (op8 : Byte) : Statement (.rolZp op8) := ⟨rfl, rfl⟩
theorem Sys2Proof.Laws.OneOpcode.rlaZp (op8 : Byte) : Statement (.rlaZp op8) := ⟨rfl, rfl⟩
theorem Sys2Proof.Laws.OneOpcode.plp : Statement .plp := ⟨rfl, rfl⟩
theorem Sys2Proof.Laws.OneOpcode.andImm (op8 : Byte) : Statement (.andImm op8) := ⟨rfl, rfl⟩
theorem Sys2Proof.Laws.OneOpcode.rolA : Statement .rolA := ⟨rfl, rfl⟩
theorem Sys2Proof.Laws.OneOpcode.ancImm2B (op8 : Byte) : Statement (.ancImm2B op8) := ⟨rfl, rfl⟩
theorem Sys2Proof.Laws.OneOpcode.bitAbs (op16 : Word) : Statement (.bitAbs op16) := ⟨rfl, rfl⟩
theorem Sys2Proof.Laws.OneOpcode.andAbs (op16 : Word) : Statement (.andAbs op16) := ⟨rfl, rfl⟩
theorem Sys2Proof.Laws.OneOpcode.rolAbs (op16 : Word) : Statement (.rolAbs op16) := ⟨rfl, rfl⟩
theorem Sys2Proof.Laws.OneOpcode.rlaAbs (op16 : Word) : Statement (.rlaAbs op16) := ⟨rfl, rfl⟩
theorem Sys2Proof.Laws.OneOpcode.bmi (op8 : Byte) : Statement (.bmi op8) := ⟨rfl, rfl⟩
theorem Sys2Proof.Laws.OneOpcode.andIzy (op8 : Byte) : Statement (.andIzy op8) := ⟨rfl, rfl⟩
theorem Sys2Proof.Laws.OneOpcode.unk32 : Statement .unk32 := ⟨rfl, rfl⟩
theorem Sys2Proof.Laws.OneOpcode.rlaIzy (op8 : Byte) : Statement (.rlaIzy op8) := ⟨rfl, rfl⟩
theorem Sys2Proof.Laws.OneOpcode.nopZpx34 (op8 : Byte) : Statement (.nopZpx34 op8) := ⟨rfl, rfl⟩
theorem Sys2Proof.Laws.OneOpcode.andZpx (op8 : Byte) : Statement (.andZpx op8) := ⟨rfl, rfl⟩
theorem Sys2Proof.Laws.OneOpcode.rolZpx (op8 : Byte) : Statement (.rolZpx op8) := ⟨rfl, rfl⟩
theorem Sys2Proof.Laws.OneOpcode.rlaZpx (op8 : Byte) : Statement (.rlaZpx op8) := ⟨rfl, rfl⟩
theorem Sys2Proof.Laws.OneOpcode.sec : Statement .sec := ⟨rfl, rfl⟩
theorem Sys2Proof.Laws.OneOpcode.andAby (op16 : Word) : Statement (.andAby op16) := ⟨rfl, rfl⟩
theorem Sys2Proof.Laws.OneOpcode.nop3A : Statement .nop3A := ⟨rfl, rfl⟩
theorem Sys2Proof.Laws.OneOpcode.rlaAby (op16 : Word) : Statement (.rlaAby op16) := ⟨rfl, rfl⟩
theorem Sys2Proof.Laws.OneOpcode.nopAbx3C (op16 : Word) : Statement (.nopAbx3C op16) := ⟨rfl, rfl⟩
theorem Sys2Proof.Laws.OneOpcode.andAbx (op16 : Word) : Statement (.andAbx op16) := ⟨rfl, rfl⟩
theorem Sys2Proof.Laws.OneOpcode.rolAbx (op16 : Word) : Statement (.rolAbx op16) := ⟨rfl, rfl⟩
theorem Sys2Proof.Laws.OneOpcode.rlaAbx (op16 : Word) : Statement (.rlaAbx op16) := ⟨rfl, rfl⟩
theorem Sys2Proof.Laws.OneOpcode.rti : Statement .rti := ⟨rfl, rfl⟩
theorem Sys2Proof.Laws.OneOpcode.eorIzx (op8 : Byte) : Statement (.eorIzx op8) := ⟨rfl, rfl⟩
theorem Sys2Proof.Laws.OneOpcode.unk42 : Statement .unk42 := ⟨rfl, rfl⟩
theorem Sys2Proof.Laws.OneOpcode.sreIzx (op8 : Byte) : Statement (.sreIzx op8) := ⟨rfl, rfl⟩
theorem Sys2Proof.Laws.OneOpcode.nopZp44 (op8 : Byte) : Statement (.nopZp44 op8) := ⟨rfl, rfl⟩
theorem Sys2Proof.Laws.OneOpcode.eorZp (op8 : Byte) : Statement (.eorZp op8) := ⟨rfl, rfl⟩
theorem Sys2Proof.Laws.OneOpcode.lsrZp (op8 : Byte) : Statement (.lsrZp op8) := ⟨rfl, rfl⟩
theorem Sys2Proof.Laws.OneOpcode.sreZp (op8 : Byte) : Statement (.sreZp op8) := ⟨rfl, rfl⟩
theorem Sys2Proof.Laws.OneOpcode.pha : Statement .pha := ⟨rfl, rfl⟩
theorem Sys2Proof.Laws.OneOpcode.eorImm (op8 : Byte) : Statement (.eorImm op8) := ⟨rfl, rfl⟩
theorem Sys2Proof.Laws.OneOpcode.lsrA : Statement .lsrA := ⟨rfl, rfl⟩
theorem Sys2Proof.Laws.OneOpcode.alrImm (op8 : Byte) : Statement (.alrImm op8) := ⟨rfl, rfl⟩
theorem Sys2Proof.Laws.OneOpcode.jmpAbs (op16 : Word) : Statement (.jmpAbs op16) := ⟨rfl, rfl⟩
theorem Sys2Proof.Laws.OneOpcode.eorAbs (op16 : Word) : Statement (.eorAbs op16) := ⟨rfl, rfl⟩
theorem Sys2Proof.Laws.OneOpcode.lsrAbs (op16 : Word) : Statement (.lsrAbs op16) := ⟨rfl, rfl⟩
theorem Sys2Proof.Laws.OneOpcode.sreAbs (op16 : Word) : Statement (.sreAbs op16) := ⟨rfl, rfl⟩
theorem Sys2Proof.Laws.OneOpcode.bvc (op8 : Byte) : Statement (.bvc op8) := ⟨rfl, rfl⟩
theorem Sys2Proof.Laws.OneOpcode.eorIzy (op8 : Byte) : Statement (.eorIzy op8) := ⟨rfl, rfl⟩
theorem Sys2Proof.Laws.OneOpcode.unk52 : Statement .unk52 := ⟨rfl, rfl⟩
theorem Sys2Proof.Laws.OneOpcode.sreIzy (op8 : Byte) : Statement (.sreIzy op8) := ⟨rfl, rfl⟩
theorem Sys2Proof.Laws.OneOpcode.nopZpx54 (op8 : Byte) : Statement (.nopZpx54 op8) := ⟨rfl, rfl⟩
theorem Sys2Proof.Laws.OneOpcode.eorZpx (op8 : Byte) : Statement (.eorZpx op8) := ⟨rfl, rfl⟩
theorem Sys2Proof.Laws.OneOpcode.lsrZpx (op8 : Byte) : Statement (.lsrZpx op8) := ⟨rfl, rfl⟩
theorem Sys2Proof.Laws.OneOpcode.sreZpx (op8 : Byte) : Statement (.sreZpx op8) := ⟨rfl, rfl⟩
theorem Sys2Proof.Laws.OneOpcode.cli : Statement .cli := ⟨rfl, rfl⟩
theorem Sys2Proof.Laws.OneOpcode.eorAby (op16 : Word) : Statement (.eorAby op16) := ⟨rfl, rfl⟩
theorem Sys2Proof.Laws.OneOpcode.nop5A : Statement .nop5A := ⟨rfl, rfl⟩
theorem Sys2Proof.Laws.OneOpcode.sreAby (op16 : Word) : Statement (.sreAby op16) := ⟨rfl, rfl⟩
theorem Sys2Proof.Laws.OneOpcode.nopAbx5C (op16 : Word) : Statement (.nopAbx5C op16) := ⟨rfl, rfl⟩
theorem Sys2Proof.Laws.OneOpcode.eorAbx (op16 : Word) : Statement (.eorAbx op16) := ⟨rfl, rfl⟩
theorem Sys2Proof.Laws.OneOpcode.lsrAbx (op16 : Word) : Statement (.lsrAbx op16) := ⟨rfl, rfl⟩
theorem Sys2Proof.Laws.OneOpcode.sreAbx (op16 : Word) : Statement (.sreAbx op16) := ⟨rfl, rfl⟩
theorem Sys2Proof.Laws.OneOpcode.rts : Statement .rts := ⟨rfl, rfl⟩
theorem Sys2Proof.Laws.OneOpcode.adcIzx (op8 : Byte) : Statement (.adcIzx op8) := ⟨rfl, rfl⟩
theorem Sys2Proof.Laws.OneOpcode.unk62 : Statement .unk62 := ⟨rfl, rfl⟩
theorem Sys2Proof.Laws.OneOpcode.rraIzx (op8 : Byte) : Statement (.rraIzx op8) := ⟨rfl, rfl⟩
theorem Sys2Proof.Laws.OneOpcode.nopZp64 (op8 : Byte) : Statement (.nopZp64 op8) := ⟨rfl, rfl⟩
theorem Sys2Proof.Laws.OneOpcode.adcZp (op8 : Byte) : Statement (.adcZp op8) := ⟨rfl, rfl⟩
theorem Sys2Proof.Laws.OneOpcode.rorZp (op8 : Byte) : Statement (.rorZp op8) := ⟨rfl, rfl⟩
theorem Sys2Proof.Laws.OneOpcode.rraZp (op8 : Byte) : Statement (.rraZp op8) := ⟨rfl, rfl⟩
theorem Sys2Proof.Laws.OneOpcode.pla : Statement .pla := ⟨rfl, rfl⟩
theorem Sys2Proof.Laws.OneOpcode.adcImm (op8 : Byte) : Statement (.adcImm op8) := ⟨rfl, rfl⟩
theorem Sys2Proof.Laws.OneOpcode.rorA : Statement .rorA := ⟨rfl, rfl⟩
theorem Sys2Proof.Laws.OneOpcode.arrImm (op8 : Byte) : Statement (.arrImm op8) := ⟨rfl, rfl⟩
theorem Sys2Proof.Laws.OneOpcode.jmpInd (op16 : Word) : Statement (.jmpInd op16) := ⟨rfl, rfl⟩
theorem Sys2Proof.Laws.OneOpcode.adcAbs (op16 : Word) : Statement (.adcAbs op16) := ⟨rfl, rfl⟩
theorem Sys2Proof.Laws.OneOpcode.rorAbs (op16 : Word) : Statement (.rorAbs op16) := ⟨rfl, rfl⟩
theorem Sys2Proof.Laws.OneOpcode.rraAbs (op16 : Word) : Statement (.rraAbs op16) := ⟨rfl, rfl⟩
theorem Sys2Proof.Laws.OneOpcode.bvs (op8 : Byte) : Statement (.bvs op8) := ⟨rfl, rfl⟩
theorem Sys2Proof.Laws.OneOpcode.adcIzy (op8 : Byte) : Statement (.adcIzy op8) := ⟨rfl, rfl⟩
theorem Sys2Proof.Laws.OneOpcode.unk72 : Statement .unk72 := ⟨rfl, rfl⟩
theorem Sys2Proof.Laws.OneOpcode.rraIzy (op8 : Byte) : Statement (.rraIzy op8) := ⟨rfl, rfl⟩
theorem Sys2Proof.Laws.OneOpcode.nopZpx74 (op8 : Byte) : Statement (.nopZpx74 op8) := ⟨rfl, rfl⟩
theorem Sys2Proof.Laws.OneOpcode.adcZpx (op8 : Byte) : Statement (.adcZpx op8) := ⟨rfl, rfl⟩
theorem Sys2Proof.Laws.OneOpcode.rorZpx (op8 : Byte) : Statement (.rorZpx op8) := ⟨rfl, rfl⟩
theorem Sys2Proof.Laws.OneOpcode.rraZpx (op8 : Byte) : Statement (.rraZpx op8) := ⟨rfl, rfl⟩
theorem Sys2Proof.Laws.OneOpcode.sei : Statement .sei := ⟨rfl, rfl⟩
theorem Sys2Proof.Laws.OneOpcode.adcAby (op16 : Word) : Statement (.adcAby op16) := ⟨rfl, rfl⟩
theorem Sys2Proof.Laws.OneOpcode.nop7A : Statement .nop7A := ⟨rfl, rfl⟩
theorem Sys2Proof.Laws.OneOpcode.rraAby (op16 : Word) : Statement (.rraAby op16) := ⟨rfl, rfl⟩
theorem Sys2Proof.Laws.OneOpcode.nopAbx7C (op16 : Word) : Statement (.nopAbx7C op16) := ⟨rfl, rfl⟩
theorem Sys2Proof.Laws.OneOpcode.adcAbx (op16 : Word) : Statement (.adcAbx op16) := ⟨rfl, rfl⟩
theorem Sys2Proof.Laws.OneOpcode.rorAbx (op16 : Word) : Statement (.rorAbx op16) := ⟨rfl, rfl⟩
theorem Sys2Proof.Laws.OneOpcode.rraAbx (op16 : Word) : Statement (.rraAbx op16) := ⟨rfl, rfl⟩
theorem Sys2Proof.Laws.OneOpcode.nopImm80 (op8 : Byte) : Statement (.nopImm80 op8) := ⟨rfl, rfl⟩
theorem Sys2Proof.Laws.OneOpcode.staIzx (op8 : Byte) : Statement (.staIzx op8) := ⟨rfl, rfl⟩
theorem Sys2Proof.Laws.OneOpcode.nopImm82 (op8 : Byte) : Statement (.nopImm82 op8) := ⟨rfl, rfl⟩
theorem Sys2Proof.Laws.OneOpcode.saxIzx (op8 : Byte) : Statement (.saxIzx op8) := ⟨rfl, rfl⟩
theorem Sys2Proof.Laws.OneOpcode.styZp (op8 : Byte) : Statement (.styZp op8) := ⟨rfl, rfl⟩
theorem Sys2Proof.Laws.OneOpcode.staZp (op8 : Byte) : Statement (.staZp op8) := ⟨rfl, rfl⟩
theorem Sys2Proof.Laws.OneOpcode.stxZp (op8 : Byte) : Statement (.stxZp op8) := ⟨rfl, rfl⟩
theorem Sys2Proof.Laws.OneOpcode.saxZp (op8 : Byte) : Statement (.saxZp op8) := ⟨rfl, rfl⟩
theorem Sys2Proof.Laws.OneOpcode.dey : Statement .dey := ⟨rfl, rfl⟩
theorem Sys2Proof.Laws.OneOpcode.nopImm89 (op8 : Byte) : Statement (.nopImm89 op8) := ⟨rfl, rfl⟩
theorem Sys2Proof.Laws.OneOpcode.txa : Statement .txa := ⟨rfl, rfl⟩
theorem Sys2Proof.Laws.OneOpcode.unk8B : Statement .unk8B := ⟨rfl, rfl⟩
theorem Sys2Proof.Laws.OneOpcode.styAbs (op16 : Word) : Statement (.styAbs op16) := ⟨rfl, rfl⟩
theorem Sys2Proof.Laws.OneOpcode.staAbs (op16 : Word) : Statement (.staAbs op16) := ⟨rfl, rfl⟩
theorem Sys2Proof.Laws.OneOpcode.stxAbs (op16 : Word) : Statement (.stxAbs op16) := ⟨rfl, rfl⟩
theorem Sys2Proof.Laws.OneOpcode.saxAbs (op16 : Word) : Statement (.saxAbs op16) := ⟨rfl, rfl⟩
theorem Sys2Proof.Laws.OneOpcode.bcc (op8 : Byte) : Statement (.bcc op8) := ⟨rfl, rfl⟩
theorem Sys2Proof.Laws.OneOpcode.staIzy (op8 : Byte) : Statement (.staIzy op8) := ⟨rfl, rfl⟩
theorem Sys2Proof.Laws.OneOpcode.unk92 : Statement .unk92 := ⟨rfl, rfl⟩
theorem Sys2Proof.Laws.OneOpcode.unk93 : Statement .unk93 := ⟨rfl, rfl⟩
theorem Sys2Proof.Laws.OneOpcode.styZpx (op8 : Byte) : Statement (.styZpx op8) := ⟨rfl, rfl⟩
theorem Sys2Proof.Laws.OneOpcode.staZpx (op8 : Byte) : Statement (.staZpx op8) := ⟨rfl, rfl⟩
theorem Sys2Proof.Laws.OneOpcode.stxZpy (op8 : Byte) : Statement (.stxZpy op8) := ⟨rfl, rfl⟩
theorem Sys2Proof.Laws.OneOpcode.saxZpy (op8 : Byte) : Statement (.saxZpy op8) := ⟨rfl, rfl⟩
theorem Sys2Proof.Laws.OneOpcode.tya : Statement .tya := ⟨rfl, rfl⟩
theorem Sys2Proof.Laws.OneOpcode.staAby (op16 : Word) : Statement (.staAby op16) := ⟨rfl, rfl⟩
theorem Sys2Proof.Laws.OneOpcode.txs : Statement .txs := ⟨rfl, rfl⟩
theorem Sys2Proof.Laws.OneOpcode.unk9B : Statement .unk9B := ⟨rfl, rfl⟩
theorem Sys2Proof.Laws.OneOpcode.shyAbx (op16 : Word) : Statement (.shyAbx op16) := ⟨rfl, rfl⟩
theorem Sys2Proof.Laws.OneOpcode.staAbx (op16 : Word) : Statement (.staAbx op16) := ⟨rfl, rfl⟩
theorem Sys2Proof.Laws.OneOpcode.shxAby (op16 : Word) : Statement (.shxAby op16) := ⟨rfl, rfl⟩
theorem Sys2Proof.Laws.OneOpcode.unk9F : Statement .unk9F := ⟨rfl, rfl⟩
theorem Sys2Proof.Laws.OneOpcode.ldyImm (op8 : Byte) : Statement (.ldyImm op8) := ⟨rfl, rfl⟩
theorem Sys2Proof.Laws.OneOpcode.ldaIzx (op8 : Byte) : Statement (.ldaIzx op8) := ⟨rfl, rfl⟩
theorem Sys2Proof.Laws.OneOpcode.ldxImm (op8 : Byte) : Statement (.ldxImm op8) := ⟨rfl, rfl⟩
theorem Sys2Proof.Laws.OneOpcode.laxIzx (op8 : Byte) : Statement (.laxIzx op8) := ⟨rfl, rfl⟩
theorem Sys2Proof.Laws.OneOpcode.ldyZp (op8 : Byte) : Statement (.ldyZp op8) := ⟨rfl, rfl⟩
theorem Sys2Proof.Laws.OneOpcode.ldaZp (op8 : Byte) : Statement (.ldaZp op8) := ⟨rfl, rfl⟩
theorem Sys2Proof.Laws.OneOpcode.ldxZp (op8 : Byte) : Statement (.ldxZp op8) := ⟨rfl, rfl⟩
theorem Sys2Proof.Laws.OneOpcode.laxZp (op8 : Byte) : Statement (.laxZp op8) := ⟨rfl, rfl⟩
theorem Sys2Proof.Laws.OneOpcode.tay : Statement .tay := ⟨rfl, rfl⟩
theorem Sys2Proof.Laws.OneOpcode.ldaImm (op8 : Byte) : Statement (.ldaImm op8) := ⟨rfl, rfl⟩
theorem Sys2Proof.Laws.OneOpcode.tax : Statement .tax := ⟨rfl, rfl⟩
theorem Sys2Proof.Laws.OneOpcode.unkAB : Statement .unkAB := ⟨rfl, rfl⟩
theorem Sys2Proof.Laws.OneOpcode.ldyAbs (op16 : Word) : Statement (.ldyAbs op16) := ⟨rfl, rfl⟩
theorem Sys2Proof.Laws.OneOpcode.ldaAbs (op16 : Word) : Statement (.ldaAbs op16) := ⟨rfl, rfl⟩
theorem Sys2Proof.Laws.OneOpcode.ldxAbs (op16 : Word) : Statement (.ldxAbs op16) := ⟨rfl, rfl⟩
theorem Sys2Proof.Laws.OneOpcode.laxAbs (op16 : Word) : Statement (.laxAbs op16) := ⟨rfl, rfl⟩
theorem Sys2Proof.Laws.OneOpcode.bcs (op8 : Byte) : Statement (.bcs op8) := ⟨rfl, rfl⟩
theorem Sys2Proof.Laws.OneOpcode.ldaIzy (op8 : Byte) : Statement (.ldaIzy op8) := ⟨rfl, rfl⟩
theorem Sys2Proof.Laws.OneOpcode.unkB2 : Statement .unkB2 := ⟨rfl, rfl⟩
theorem Sys2Proof.Laws.OneOpcode.laxIzy (op8 : Byte) : Statement (.laxIzy op8) := ⟨rfl, rfl⟩
theorem Sys2Proof.Laws.OneOpcode.ldyZpx (op8 : Byte) : Statement (.ldyZpx op8) := ⟨rfl, rfl⟩
theorem Sys2Proof.Laws.OneOpcode.ldaZpx (op8 : Byte) : Statement (.ldaZpx op8) := ⟨rfl, rfl⟩
theorem Sys2Proof.Laws.OneOpcode.ldxZpy (op8 : Byte) : Statement (.ldxZpy op8) := ⟨rfl, rfl⟩
theorem Sys2Proof.Laws.OneOpcode.laxZpy (op8 : Byte) : Statement (.laxZpy op8) := ⟨rfl, rfl⟩
theorem Sys2Proof.Laws.OneOpcode.clv : Statement .clv := ⟨rfl, rfl⟩
theorem Sys2Proof.Laws.OneOpcode.ldaAby (op16 : Word) : Statement (.ldaAby op16) := ⟨rfl, rfl⟩
theorem Sys2Proof.Laws.OneOpcode.tsx : Statement .tsx := ⟨rfl, rfl⟩
theorem Sys2Proof.Laws.OneOpcode.unkBB : Statement .unkBB := ⟨rfl, rfl⟩
theorem Sys2Proof.Laws.OneOpcode.ldyAbx (op16 : Word) : Statement (.ldyAbx op16) := ⟨rfl, rfl⟩
theorem Sys2Proof.Laws.OneOpcode.ldaAbx (op16 : Word) : Statement (.ldaAbx op16) := ⟨rfl, rfl⟩
theorem Sys2Proof.Laws.OneOpcode.ldxAby (op16 : Word) : Statement (.ldxAby op16) := ⟨rfl, rfl⟩
theorem Sys2Proof.Laws.OneOpcode.laxAby (op16 : Word) : Statement (.laxAby op16) := ⟨rfl, rfl⟩
theorem Sys2Proof.Laws.OneOpcode.cpyImm (op8 : Byte) : Statement (.cpyImm op8) := ⟨rfl, rfl⟩
theorem Sys2Proof.Laws.OneOpcode.cmpIzx (op8 : Byte) : Statement (.cmpIzx op8) := ⟨rfl, rfl⟩
theorem Sys2Proof.Laws.OneOpcode.nopImmC2 (op8 : Byte) : Statement (.nopImmC2 op8) := ⟨rfl, rfl⟩
theorem Sys2Proof.Laws.OneOpcode.dcpIzx (op8 : Byte) : Statement (.dcpIzx op8) := ⟨rfl, rfl⟩
theorem Sys2Proof.Laws.OneOpcode.cpyZp (op8 : Byte) : Statement (.cpyZp op8) := ⟨rfl, rfl⟩
theorem Sys2Proof.Laws.OneOpcode.cmpZp (op8 : Byte) : Statement (.cmpZp op8) := ⟨rfl, rfl⟩
theorem Sys2Proof.Laws.OneOpcode.decZp (op8 : Byte) : Statement (.decZp op8) := ⟨rfl, rfl⟩
theorem Sys2Proof.Laws.OneOpcode.dcpZp (op8 : Byte) : Statement (.dcpZp op8) := ⟨rfl, rfl⟩
theorem Sys2Proof.Laws.OneOpcode.iny : Statement .iny := ⟨rfl, rfl⟩
theorem Sys2Proof.Laws.OneOpcode.cmpImm (op8 : Byte) : Statement (.cmpImm op8) := ⟨rfl, rfl⟩
theorem Sys2Proof.Laws.OneOpcode.dex : Statement .dex := ⟨rfl, rfl⟩
theorem Sys2Proof.Laws.OneOpcode.axsImm (op8 : Byte) : Statement (.axsImm op8) := ⟨rfl, rfl⟩
theorem Sys2Proof.Laws.OneOpcode.cpyAbs (op16 : Word) : Statement (.cpyAbs op16) := ⟨rfl, rfl⟩
theorem Sys2Proof.Laws.OneOpcode.cmpAbs (op16 : Word) : Statement (.cmpAbs op16) := ⟨rfl, rfl⟩
theorem Sys2Proof.Laws.OneOpcode.decAbs (op16 : Word) : Statement (.decAbs op16) := ⟨rfl, rfl⟩
theorem Sys2Proof.Laws.OneOpcode.dcpAbs (op16 : Word) : Statement (.dcpAbs op16) := ⟨rfl, rfl⟩
theorem Sys2Proof.Laws.OneOpcode.bne (op8 : Byte) : Statement (.bne op8) := ⟨rfl, rfl⟩
theorem Sys2Proof.Laws.OneOpcode.cmpIzy (op8 : Byte) : Statement (.cmpIzy op8) := ⟨rfl, rfl⟩
theorem Sys2Proof.Laws.OneOpcode.unkD2 : Statement .unkD2 := ⟨rfl, rfl⟩
theorem Sys2Proof.Laws.OneOpcode.dcpIzy (op8 : Byte) : Statement (.dcpIzy op8) := ⟨rfl, rfl⟩
theorem Sys2Proof.Laws.OneOpcode.nopZpxD4 (op8 : Byte) : Statement (.nopZpxD4 op8) := ⟨rfl, rfl⟩
theorem Sys2Proof.Laws.OneOpcode.cmpZpx (op8 : Byte) : Statement (.cmpZpx op8) := ⟨rfl, rfl⟩
theorem Sys2Proof.Laws.OneOpcode.decZpx (op8 : Byte) : Statement (.decZpx op8) := ⟨rfl, rfl⟩
theorem Sys2Proof.Laws.OneOpcode.dcpZpx (op8 : Byte) : Statement (.dcpZpx op8) := ⟨rfl, rfl⟩
theorem Sys2Proof.Laws.OneOpcode.cld : Statement .cld := ⟨rfl, rfl⟩
theorem Sys2Proof.Laws.OneOpcode.cmpAby (op16 : Word) : Statement (.cmpAby op16) := ⟨rfl, rfl⟩
theorem Sys2Proof.Laws.OneOpcode.nopDA : Statement .nopDA := ⟨rfl, rfl⟩
theorem Sys2Proof.Laws.OneOpcode.dcpAby (op16 : Word) : Statement (.dcpAby op16) := ⟨rfl, rfl⟩
theorem Sys2Proof.Laws.OneOpcode.nopAbxDC (op16 : Word) : Statement (.nopAbxDC op16) := ⟨rfl, rfl⟩
theorem Sys2Proof.Laws.OneOpcode.cmpAbx (op16 : Word) : Statement (.cmpAbx op16) := ⟨rfl, rfl⟩
theorem Sys2Proof.Laws.OneOpcode.decAbx (op16 : Word) : Statement (.decAbx op16) := ⟨rfl, rfl⟩
theorem Sys2Proof.Laws.OneOpcode.dcpAbx (op16 : Word) : Statement (.dcpAbx op16) := ⟨rfl, rfl⟩
theorem Sys2Proof.Laws.OneOpcode.cpxImm (op8 : Byte) : Statement (.cpxImm op8) := ⟨rfl, rfl⟩
theorem Sys2Proof.Laws.OneOpcode.sbcIzx (op8 : Byte) : Statement (.sbcIzx op8) := ⟨rfl, rfl⟩
theorem Sys2Proof.Laws.OneOpcode.nopImmE2 (op8 : Byte) : Statement (.nopImmE2 op8) := ⟨rfl, rfl⟩
theorem Sys2Proof.Laws.OneOpcode.iscIzx (op8 : Byte) : Statement (.iscIzx op8) := ⟨rfl, rfl⟩
theorem Sys2Proof.Laws.OneOpcode.cpxZp (op8 : Byte) : Statement (.cpxZp op8) := ⟨rfl, rfl⟩
theorem Sys2Proof.Laws.OneOpcode.sbcZp (op8 : Byte) : Statement (.sbcZp op8) := ⟨rfl, rfl⟩
theorem Sys2Proof.Laws.OneOpcode.incZp (op8 : Byte) : Statement (.incZp op8) := ⟨rfl, rfl⟩
theorem Sys2Proof.Laws.OneOpcode.iscZp (op8 : Byte) : Statement (.iscZp op8) := ⟨rfl, rfl⟩
theorem Sys2Proof.Laws.OneOpcode.inx : Statement .inx := ⟨rfl, rfl⟩
theorem Sys2Proof.Laws.OneOpcode.sbcImm (op8 : Byte) : Statement (.sbcImm op8) := ⟨rfl, rfl⟩
theorem Sys2Proof.Laws.OneOpcode.nop : Statement .nop := ⟨rfl, rfl⟩
theorem Sys2Proof.Laws.OneOpcode.sbcImmEB (op8 : Byte) : Statement (.sbcImmEB op8) := ⟨rfl, rfl⟩
theorem Sys2Proof.Laws.OneOpcode.cpxAbs (op16 : Word) : Statement (.cpxAbs op16) := ⟨rfl, rfl⟩
theorem Sys2Proof.Laws.OneOpcode.sbcAbs (op16 : Word) : Statement (.sbcAbs op16) := ⟨rfl, rfl⟩
theorem Sys2Proof.Laws.OneOpcode.incAbs (op16 : Word) : Statement (.incAbs op16) := ⟨rfl, rfl⟩
theorem Sys2Proof.Laws.OneOpcode.iscAbs (op16 : Word) : Statement (.iscAbs op16) := ⟨rfl, rfl⟩
theorem Sys2Proof.Laws.OneOpcode.beq (op8 : Byte) : Statement (.beq op8) := ⟨rfl, rfl⟩
theorem Sys2Proof.Laws.OneOpcode.sbcIzy (op8 : Byte) : Statement (.sbcIzy op8) := ⟨rfl, rfl⟩
theorem Sys2Proof.Laws.OneOpcode.unkF2 : Statement .unkF2 := ⟨rfl, rfl⟩
theorem Sys2Proof.Laws.OneOpcode.iscIzy (op8 : Byte) : Statement (.iscIzy op8) := ⟨rfl, rfl⟩
theorem Sys2Proof.Laws.OneOpcode.nopZpxF4 (op8 : Byte) : Statement (.nopZpxF4 op8) := ⟨rfl, rfl⟩
theorem Sys2Proof.Laws.OneOpcode.sbcZpx (op8 : Byte) : Statement (.sbcZpx op8) := ⟨rfl, rfl⟩
theorem Sys2Proof.Laws.OneOpcode.incZpx (op8 : Byte) : Statement (.incZpx op8) := ⟨rfl, rfl⟩
theorem Sys2Proof.Laws.OneOpcode.iscZpx (op8 : Byte) : Statement (.iscZpx op8) := ⟨rfl, rfl⟩
theorem Sys2Proof.Laws.OneOpcode.sed : Statement .sed := ⟨rfl, rfl⟩
theorem Sys2Proof.Laws.OneOpcode.sbcAby (op16 : Word) : Statement (.sbcAby op16) := ⟨rfl, rfl⟩
theorem Sys2Proof.Laws.OneOpcode.nopFA : Statement .nopFA := ⟨rfl, rfl⟩
theorem Sys2Proof.Laws.OneOpcode.iscAby (op16 : Word) : Statement (.iscAby op16) := ⟨rfl, rfl⟩
theorem Sys2Proof.Laws.OneOpcode.nopAbxFC (op16 : Word) : Statement (.nopAbxFC op16) := ⟨rfl, rfl⟩
theorem Sys2Proof.Laws.OneOpcode.sbcAbx (op16 : Word) : Statement (.sbcAbx op16) := ⟨rfl, rfl⟩
theorem Sys2Proof.Laws.OneOpcode.incAbx (op16 : Word) : Statement (.incAbx op16) := ⟨rfl, rfl⟩
theorem Sys2Proof.Laws.OneOpcode.iscAbx (op16 : Word) : Statement (.iscAbx op16) := ⟨rfl, rfl⟩
end

