-- ==== Sys2Proof/Laws/Step.lean ====
section
/-! SUPPORT. What a tick can do, said once: whoever takes a turn, the ticker list, the configuration and the counter stay,
and the device table changes only by bus accesses; a wait tick, a service tick and an instruction tick as equations;
the fan-out over an appended list. -/

namespace Sys2Proof.Machine

/-- `t` comes from `s` by turns of tickers: what no turn changes is the same. -/
structure Ticked (s t : State) : Prop where
  decimalDisabled : t.decimalDisabled = s.decimalDisabled
  debugOn : t.debugOn = s.debugOn
  params : t.params = s.params
  tickers : t.tickers = s.tickers
  tickCount : t.tickCount = s.tickCount
  devices : Accessed s.devices t.devices

theorem Ticked.refl (s : State) : Ticked s s := ⟨rfl, rfl, rfl, rfl, rfl, Accessed.refl _⟩

theorem Ticked.trans {s t u : State} (h : Ticked s t) (h' : Ticked t u) : Ticked s u :=
  ⟨h'.decimalDisabled.trans h.decimalDisabled, h'.debugOn.trans h.debugOn, h'.params.trans h.params,
    h'.tickers.trans h.tickers, h'.tickCount.trans h.tickCount, h.devices.trans h'.devices⟩

theorem Touches.ticked {s t : State} (h : Touches s t) : Ticked s t :=
  ⟨h.decimalDisabled, h.debugOn, h.params, h.tickers, h.tickCount, h.devices⟩

theorem disassembled_touches (s : State) (a : Word) : Touches s (s.disassembled a).2 :=
  ((setPc_touches s a).trans (fetch_touches _)).trans (setPc_touches _ _)

theorem emitTrace_ticked (s : State) (a : Word) : Ticked s (s.emitTrace a) := by
  have h := (disassembled_touches s a).ticked
  simp only [State.emitTrace]
  split
  · cases Config.traceReadsBus
    · exact ⟨rfl, rfl, rfl, rfl, rfl, Accessed.refl _⟩
    · exact ⟨h.decimalDisabled, h.debugOn, h.params, h.tickers, h.tickCount, h.devices⟩
  · exact Ticked.refl s

/-- Without the trace switch a trace line is nothing (10_state.md R37). -/
theorem emitTrace_off {s : State} (h : s.debugOn = false) (a : Word) : s.emitTrace a = s := by
  simp [State.emitTrace, h]

theorem serviceNmi_ticked (s : State) : Ticked s s.serviceNmi :=
  have h := (enterHandler_touches s s.pc false nmiVector).ticked
  ⟨h.decimalDisabled, h.debugOn, h.params, h.tickers, h.tickCount, h.devices⟩

theorem serviceIrq_ticked (s : State) : Ticked s s.serviceIrq :=
  have h := (enterHandler_touches s s.pc false irqVector).ticked
  ⟨h.decimalDisabled, h.debugOn, h.params, h.tickers, h.tickCount, h.devices⟩

theorem instructionTick_ticked {s t : State} (h : stateLeft (instructionTick s) = some t) : Ticked s t := by
  have hf := (fetch_touches s).ticked
  simp only [instructionTick] at h
  cases hx : exec s.fetch.1 s.fetch.2 with
  | next u =>
    simp only [hx, traced, stateLeft, Option.some.injEq] at h
    subst h
    exact (hf.trans (exec_touches hx).ticked).trans (emitTrace_ticked _ _)
  | fault r =>
    obtain ⟨-, rfl⟩ := exec_fault hx
    simp only [hx, traced, stateLeft, Option.some.injEq] at h
    subst h
    exact hf
  | refused r => exact absurd hx (exec_not_refused _ _ _)

theorem cpuTick_ticked {s t : State} (h : stateLeft (cpuTick s) = some t) : Ticked s t := by
  simp only [cpuTick] at h
  split at h
  · simp only [stateLeft, Option.some.injEq] at h
    subst h
    exact ⟨rfl, rfl, rfl, rfl, rfl, Accessed.refl _⟩
  · split at h
    · simp only [stateLeft, Option.some.injEq] at h
      subst h
      exact serviceNmi_ticked s
    · split at h
      · simp only [stateLeft, Option.some.injEq] at h
        subst h
        exact serviceIrq_ticked s
      · exact instructionTick_ticked h

theorem busAction_ticked (s : State) (b : BusAction) : Ticked s (s.busAction b) := by
  cases b with
  | irqReq =>
    simp only [State.busAction, State.irqReq]
    split
    · exact Ticked.refl s
    · exact ⟨rfl, rfl, rfl, rfl, rfl, Accessed.refl _⟩
  | nmiReq => exact ⟨rfl, rfl, rfl, rfl, rfl, Accessed.refl _⟩
  | busRead a => exact (memRead_touches s a).ticked
  | busWrite a v => exact (memWrite_touches s a v).ticked
  | ownState n st => exact ⟨rfl, rfl, rfl, rfl, rfl, (Accessed.refl _).own n st⟩

theorem busActions_ticked (bs : List BusAction) (s : State) : Ticked s (bs.foldl State.busAction s) := by
  induction bs generalizing s with
  | nil => exact Ticked.refl s
  | cons b bs ih => exact (busAction_ticked s b).trans (ih _)

theorem tickerTurn_ticked {k : Ticker} {s t : State} (h : stateLeft (tickerTurn k s) = some t) : Ticked s t := by
  cases k with
  | cpu => exact cpuTick_ticked h
  | subscriber id =>
    simp only [tickerTurn, subscriberTurn] at h
    split at h <;>
      · simp only [stateLeft, Option.some.injEq] at h
        subst h
        exact busActions_ticked _ s

theorem fanOut_ticked {ks : List Ticker} {s t : State} (h : stateLeft (fanOut ks s) = some t) : Ticked s t := by
  induction ks generalizing s with
  | nil =>
    simp only [fanOut, stateLeft, Option.some.injEq] at h
    subst h
    exact Ticked.refl s
  | cons k ks ih =>
    simp only [fanOut] at h
    split at h
    · rename_i u hu
      exact (tickerTurn_ticked (by rw [hu]; rfl)).trans (ih h)
    · rename_i r hr
      exact tickerTurn_ticked (by rw [hr]; exact h)
    · simp [stateLeft] at h

/-- All a tick can do to the configuration, the ticker list and the devices, and to the counter (20_memory.md R60). -/
theorem step_ticked {s t : State} (h : stateLeft (step s) = some t) :
    Ticked { s with tickCount := s.tickCount + 1 } t := fanOut_ticked h

/-- With the CPU alone a tick is the CPU's (92_eei_decisions.md D31). -/
theorem step_cpuAlone {s : State} (h : s.cpuAlone) : step s = cpuTick { s with tickCount := s.tickCount + 1 } := by
  have h' : s.tickers = [.cpu] := h
  simp only [step, busTick, h', fanOut, tickerTurn]
  split <;> simp_all

/-- A wait tick (40_step_and_addressing.md R100 step 1). -/
theorem cpuTick_wait {s : State} (h : s.waitCycles > 0) :
    cpuTick s = .next { s with waitCycles := s.waitCycles - 1 } := by simp [cpuTick, h]

/-- An NMI service tick (R100 step 2). -/
theorem cpuTick_nmi {s : State} (h : s.waitCycles = 0) (hn : s.pendingNmi = true) :
    cpuTick s = .next s.serviceNmi := by simp [cpuTick, h, hn]

/-- An IRQ service tick (R100 step 2). -/
theorem cpuTick_irq {s : State} (h : s.waitCycles = 0) (hn : s.pendingNmi = false) (hi : s.pendingIrq = true) :
    cpuTick s = .next s.serviceIrq := by simp [cpuTick, h, hn, hi]

/-- An instruction tick (R100 steps 3 to 8). -/
theorem cpuTick_ready {s : State} (h : s.readyToFetch) : cpuTick s = instructionTick s := by
  obtain ⟨h, hn, hi⟩ := h
  simp [cpuTick, h, hn, hi]

theorem step_ready {s : State} (h : s.readyToFetch) (hc : s.cpuAlone) :
    step s = instructionTick { s with tickCount := s.tickCount + 1 } := by
  rw [step_cpuAlone hc, cpuTick_ready (s := { s with tickCount := s.tickCount + 1 }) h]

theorem fanOut_append (ks ls : List Ticker) (s : State) :
    fanOut (ks ++ ls) s = match fanOut ks s with
      | .next t => fanOut ls t
      | .fault r => .fault r
      | .refused r => .refused r := by
  induction ks generalizing s with
  | nil => rfl
  | cons k ks ih =>
    simp only [List.cons_append, fanOut]
    cases tickerTurn k s <;> simp [ih]

end Sys2Proof.Machine
end

