-- ==== Sys2Proof/Tests/Slice0.lean ====
section
/-! SUPPORT. Tests. The decoding words are the tables of 30_encoding.md R85 to R87, the one-step cases the vectors of
95_test_vectors.md Part B under their ids there (the machine of its conventions: one RAM of 65536 bytes, the code at
`$0600`, the reset registers but for those named); every expected value is the spec's. The witnesses at the end give,
for each statement with hypotheses, a state and operands that meet them. -/

namespace Sys2Proof.Tests

open Sys2Proof Sys2Proof.Machine

/-! ## WellFormed: an ill-formed term for each check is refused, a well-formed one at the edge is not -/

theorem test_wellFormed_window : Device.windowOk ⟨0x2000, 0x1FFF, .ram 16 []⟩ = false ∧
    Device.windowOk ⟨0x2000, 0x2000, .ram 16 []⟩ = true := by decide

theorem test_wellFormed_size : Store.sizeOk (.ram 0 []) = false ∧ Store.sizeOk (.rom 0 []) = false ∧
    Store.sizeOk (.ram 65537 []) = false ∧ Store.sizeOk (.rom 65537 []) = false ∧
    Store.sizeOk (.ram 1 []) = true ∧ Store.sizeOk (.rom 65536 []) = true ∧ Store.sizeOk (.foreign 1 []) = true := by
  decide

theorem test_wellFormed_tickers : tickersOk [.subscriber 1] = false ∧ tickersOk [.cpu, .cpu] = false ∧
    tickersOk [.subscriber 1, .cpu, .subscriber 1] = true := by decide

theorem test_wellFormed_contents : Memory.wf [(3, 0x00)] = false ∧ Memory.wf [(3, 0x01), (3, 0x02)] = false ∧
    Memory.wf [(3, 0x01), (2, 0x02)] = false ∧ Memory.wf [(2, 0x02), (3, 0x01)] = true ∧
    Device.ok ⟨0, 0xFF, .ram 16 [(16, 0x01)]⟩ = false ∧ Device.ok ⟨0, 0xFF, .ram 16 [(15, 0x01)]⟩ = true := by decide

theorem test_wellFormed_instr : (Instr.unk02.wellFormed && (Instr.jmpInd 0xFFFF).wellFormed) = true := by decide

/-! ## Decoding: each word of R85 to R87, with its mode, length and base cycles; operand bytes 12, and 34 -/

/-- A line of the table: the opcode byte, the mode and the base cycles there, and the instruction with operand byte 0x12
or operand word 0x3412. -/
structure Line where
  opcode : Byte
  mode : Mode
  cycles : Nat
  instr : Instr

/-- The bytes of the line decode to the instruction and leave the byte after them, its row says what the line says and
has this mnemonic, and it encodes to those bytes. -/
def Line.holds (mnemonic : String) (l : Line) : Bool :=
  let bytes : List Byte := (l.opcode :: [0x12, 0x34]).take (1 + l.mode.operandBytes)
  decode (bytes ++ [0x77]) == .ok (l.instr, [0x77]) && l.instr.row.mode == l.mode && l.instr.row.cycles == l.cycles &&
    l.instr.row.mnemonic == mnemonic && encode l.instr == bytes

theorem test_decode_LDA : ([⟨0xA9, .imm, 2, .ldaImm 0x12⟩, ⟨0xA5, .zp, 3, .ldaZp 0x12⟩,
    ⟨0xB5, .zpx, 4, .ldaZpx 0x12⟩, ⟨0xAD, .abs, 4, .ldaAbs 0x3412⟩, ⟨0xBD, .abx, 4, .ldaAbx 0x3412⟩,
    ⟨0xB9, .aby, 4, .ldaAby 0x3412⟩, ⟨0xA1, .izx, 6, .ldaIzx 0x12⟩, ⟨0xB1, .izy, 5, .ldaIzy 0x12⟩
    ] : List Line).all (Line.holds "LDA") = true := by decide

theorem test_decode_LDX : ([⟨0xA2, .imm, 2, .ldxImm 0x12⟩, ⟨0xA6, .zp, 3, .ldxZp 0x12⟩,
    ⟨0xB6, .zpy, 4, .ldxZpy 0x12⟩, ⟨0xAE, .abs, 4, .ldxAbs 0x3412⟩, ⟨0xBE, .aby, 4, .ldxAby 0x3412⟩
    ] : List Line).all (Line.holds "LDX") = true := by decide

theorem test_decode_LDY : ([⟨0xA0, .imm, 2, .ldyImm 0x12⟩, ⟨0xA4, .zp, 3, .ldyZp 0x12⟩,
    ⟨0xB4, .zpx, 4, .ldyZpx 0x12⟩, ⟨0xAC, .abs, 4, .ldyAbs 0x3412⟩, ⟨0xBC, .abx, 4, .ldyAbx 0x3412⟩
    ] : List Line).all (Line.holds "LDY") = true := by decide

theorem test_decode_STA : ([⟨0x85, .zp, 3, .staZp 0x12⟩, ⟨0x95, .zpx, 4, .staZpx 0x12⟩,
    ⟨0x8D, .abs, 4, .staAbs 0x3412⟩, ⟨0x9D, .abx, 5, .staAbx 0x3412⟩, ⟨0x99, .aby, 5, .staAby 0x3412⟩,
    ⟨0x81, .izx, 6, .staIzx 0x12⟩, ⟨0x91, .izy, 6, .staIzy 0x12⟩
    ] : List Line).all (Line.holds "STA") = true := by decide

theorem test_decode_STX : ([⟨0x86, .zp, 3, .stxZp 0x12⟩, ⟨0x96, .zpy, 4, .stxZpy 0x12⟩,
    ⟨0x8E, .abs, 4, .stxAbs 0x3412⟩] : List Line).all (Line.holds "STX") = true := by decide

theorem test_decode_STY : ([⟨0x84, .zp, 3, .styZp 0x12⟩, ⟨0x94, .zpx, 4, .styZpx 0x12⟩,
    ⟨0x8C, .abs, 4, .styAbs 0x3412⟩] : List Line).all (Line.holds "STY") = true := by decide

theorem test_decode_TAX : ([⟨0xAA, .none, 2, .tax⟩] : List Line).all (Line.holds "TAX") = true := by decide

theorem test_decode_TXA : ([⟨0x8A, .none, 2, .txa⟩] : List Line).all (Line.holds "TXA") = true := by decide

theorem test_decode_TAY : ([⟨0xA8, .none, 2, .tay⟩] : List Line).all (Line.holds "TAY") = true := by decide

theorem test_decode_TYA : ([⟨0x98, .none, 2, .tya⟩] : List Line).all (Line.holds "TYA") = true := by decide

theorem test_decode_TSX : ([⟨0xBA, .none, 2, .tsx⟩] : List Line).all (Line.holds "TSX") = true := by decide

theorem test_decode_TXS : ([⟨0x9A, .none, 2, .txs⟩] : List Line).all (Line.holds "TXS") = true := by decide

theorem test_decode_ADC : ([⟨0x69, .imm, 2, .adcImm 0x12⟩, ⟨0x65, .zp, 3, .adcZp 0x12⟩,
    ⟨0x75, .zpx, 4, .adcZpx 0x12⟩, ⟨0x6D, .abs, 4, .adcAbs 0x3412⟩, ⟨0x7D, .abx, 4, .adcAbx 0x3412⟩,
    ⟨0x79, .aby, 4, .adcAby 0x3412⟩, ⟨0x61, .izx, 6, .adcIzx 0x12⟩, ⟨0x71, .izy, 5, .adcIzy 0x12⟩
    ] : List Line).all (Line.holds "ADC") = true := by decide

theorem test_decode_SBC : ([⟨0xE9, .imm, 2, .sbcImm 0x12⟩, ⟨0xE5, .zp, 3, .sbcZp 0x12⟩,
    ⟨0xF5, .zpx, 4, .sbcZpx 0x12⟩, ⟨0xED, .abs, 4, .sbcAbs 0x3412⟩, ⟨0xFD, .abx, 4, .sbcAbx 0x3412⟩,
    ⟨0xF9, .aby, 4, .sbcAby 0x3412⟩, ⟨0xE1, .izx, 6, .sbcIzx 0x12⟩, ⟨0xF1, .izy, 5, .sbcIzy 0x12⟩
    ] : List Line).all (Line.holds "SBC") = true := by decide

theorem test_decode_AND : ([⟨0x29, .imm, 2, .andImm 0x12⟩, ⟨0x25, .zp, 3, .andZp 0x12⟩,
    ⟨0x35, .zpx, 4, .andZpx 0x12⟩, ⟨0x2D, .abs, 4, .andAbs 0x3412⟩, ⟨0x3D, .abx, 4, .andAbx 0x3412⟩,
    ⟨0x39, .aby, 4, .andAby 0x3412⟩, ⟨0x21, .izx, 6, .andIzx 0x12⟩, ⟨0x31, .izy, 5, .andIzy 0x12⟩
    ] : List Line).all (Line.holds "AND") = true := by decide

theorem test_decode_ORA : ([⟨0x09, .imm, 2, .oraImm 0x12⟩, ⟨0x05, .zp, 3, .oraZp 0x12⟩,
    ⟨0x15, .zpx, 4, .oraZpx 0x12⟩, ⟨0x0D, .abs, 4, .oraAbs 0x3412⟩, ⟨0x1D, .abx, 4, .oraAbx 0x3412⟩,
    ⟨0x19, .aby, 4, .oraAby 0x3412⟩, ⟨0x01, .izx, 6, .oraIzx 0x12⟩, ⟨0x11, .izy, 5, .oraIzy 0x12⟩
    ] : List Line).all (Line.holds "ORA") = true := by decide

theorem test_decode_EOR : ([⟨0x49, .imm, 2, .eorImm 0x12⟩, ⟨0x45, .zp, 3, .eorZp 0x12⟩,
    ⟨0x55, .zpx, 4, .eorZpx 0x12⟩, ⟨0x4D, .abs, 4, .eorAbs 0x3412⟩, ⟨0x5D, .abx, 4, .eorAbx 0x3412⟩,
    ⟨0x59, .aby, 4, .eorAby 0x3412⟩, ⟨0x41, .izx, 6, .eorIzx 0x12⟩, ⟨0x51, .izy, 5, .eorIzy 0x12⟩
    ] : List Line).all (Line.holds "EOR") = true := by decide

theorem test_decode_BIT : ([⟨0x24, .zp, 3, .bitZp 0x12⟩, ⟨0x2C, .abs, 4, .bitAbs 0x3412⟩
    ] : List Line).all (Line.holds "BIT") = true := by decide

theorem test_decode_ASL_A : ([⟨0x0A, .none, 2, .aslA⟩] : List Line).all (Line.holds "ASL A") = true := by decide

theorem test_decode_LSR_A : ([⟨0x4A, .none, 2, .lsrA⟩] : List Line).all (Line.holds "LSR A") = true := by decide

theorem test_decode_ROL_A : ([⟨0x2A, .none, 2, .rolA⟩] : List Line).all (Line.holds "ROL A") = true := by decide

theorem test_decode_ROR_A : ([⟨0x6A, .none, 2, .rorA⟩] : List Line).all (Line.holds "ROR A") = true := by decide

theorem test_decode_ASL : ([⟨0x06, .zp, 5, .aslZp 0x12⟩, ⟨0x16, .zpx, 6, .aslZpx 0x12⟩,
    ⟨0x0E, .abs, 6, .aslAbs 0x3412⟩, ⟨0x1E, .abx, 7, .aslAbx 0x3412⟩
    ] : List Line).all (Line.holds "ASL") = true := by decide

theorem test_decode_LSR : ([⟨0x46, .zp, 5, .lsrZp 0x12⟩, ⟨0x56, .zpx, 6, .lsrZpx 0x12⟩,
    ⟨0x4E, .abs, 6, .lsrAbs 0x3412⟩, ⟨0x5E, .abx, 7, .lsrAbx 0x3412⟩
    ] : List Line).all (Line.holds "LSR") = true := by decide

theorem test_decode_ROL : ([⟨0x26, .zp, 5, .rolZp 0x12⟩, ⟨0x36, .zpx, 6, .rolZpx 0x12⟩,
    ⟨0x2E, .abs, 6, .rolAbs 0x3412⟩, ⟨0x3E, .abx, 7, .rolAbx 0x3412⟩
    ] : List Line).all (Line.holds "ROL") = true := by decide

theorem test_decode_ROR : ([⟨0x66, .zp, 5, .rorZp 0x12⟩, ⟨0x76, .zpx, 6, .rorZpx 0x12⟩,
    ⟨0x6E, .abs, 6, .rorAbs 0x3412⟩, ⟨0x7E, .abx, 7, .rorAbx 0x3412⟩
    ] : List Line).all (Line.holds "ROR") = true := by decide

theorem test_decode_INC : ([⟨0xE6, .zp, 5, .incZp 0x12⟩, ⟨0xF6, .zpx, 6, .incZpx 0x12⟩,
    ⟨0xEE, .abs, 6, .incAbs 0x3412⟩, ⟨0xFE, .abx, 7, .incAbx 0x3412⟩
    ] : List Line).all (Line.holds "INC") = true := by decide

theorem test_decode_DEC : ([⟨0xC6, .zp, 5, .decZp 0x12⟩, ⟨0xD6, .zpx, 6, .decZpx 0x12⟩,
    ⟨0xCE, .abs, 6, .decAbs 0x3412⟩, ⟨0xDE, .abx, 7, .decAbx 0x3412⟩
    ] : List Line).all (Line.holds "DEC") = true := by decide

theorem test_decode_INX : ([⟨0xE8, .none, 2, .inx⟩] : List Line).all (Line.holds "INX") = true := by decide

theorem test_decode_INY : ([⟨0xC8, .none, 2, .iny⟩] : List Line).all (Line.holds "INY") = true := by decide

theorem test_decode_DEX : ([⟨0xCA, .none, 2, .dex⟩] : List Line).all (Line.holds "DEX") = true := by decide

theorem test_decode_DEY : ([⟨0x88, .none, 2, .dey⟩] : List Line).all (Line.holds "DEY") = true := by decide

theorem test_decode_CMP : ([⟨0xC9, .imm, 2, .cmpImm 0x12⟩, ⟨0xC5, .zp, 3, .cmpZp 0x12⟩,
    ⟨0xD5, .zpx, 4, .cmpZpx 0x12⟩, ⟨0xCD, .abs, 4, .cmpAbs 0x3412⟩, ⟨0xDD, .abx, 4, .cmpAbx 0x3412⟩,
    ⟨0xD9, .aby, 4, .cmpAby 0x3412⟩, ⟨0xC1, .izx, 6, .cmpIzx 0x12⟩, ⟨0xD1, .izy, 5, .cmpIzy 0x12⟩
    ] : List Line).all (Line.holds "CMP") = true := by decide

theorem test_decode_CPX : ([⟨0xE0, .imm, 2, .cpxImm 0x12⟩, ⟨0xE4, .zp, 3, .cpxZp 0x12⟩,
    ⟨0xEC, .abs, 4, .cpxAbs 0x3412⟩] : List Line).all (Line.holds "CPX") = true := by decide

theorem test_decode_CPY : ([⟨0xC0, .imm, 2, .cpyImm 0x12⟩, ⟨0xC4, .zp, 3, .cpyZp 0x12⟩,
    ⟨0xCC, .abs, 4, .cpyAbs 0x3412⟩] : List Line).all (Line.holds "CPY") = true := by decide

theorem test_decode_JMP : ([⟨0x4C, .abs, 3, .jmpAbs 0x3412⟩, ⟨0x6C, .ind, 5, .jmpInd 0x3412⟩
    ] : List Line).all (Line.holds "JMP") = true := by decide

theorem test_decode_JSR : ([⟨0x20, .abs, 6, .jsr 0x3412⟩] : List Line).all (Line.holds "JSR") = true := by decide

theorem test_decode_RTS : ([⟨0x60, .none, 6, .rts⟩] : List Line).all (Line.holds "RTS") = true := by decide

theorem test_decode_RTI : ([⟨0x40, .none, 6, .rti⟩] : List Line).all (Line.holds "RTI") = true := by decide

theorem test_decode_BPL : ([⟨0x10, .rel, 2, .bpl 0x12⟩] : List Line).all (Line.holds "BPL") = true := by decide

theorem test_decode_BMI : ([⟨0x30, .rel, 2, .bmi 0x12⟩] : List Line).all (Line.holds "BMI") = true := by decide

theorem test_decode_BVC : ([⟨0x50, .rel, 2, .bvc 0x12⟩] : List Line).all (Line.holds "BVC") = true := by decide

theorem test_decode_BVS : ([⟨0x70, .rel, 2, .bvs 0x12⟩] : List Line).all (Line.holds "BVS") = true := by decide

theorem test_decode_BCC : ([⟨0x90, .rel, 2, .bcc 0x12⟩] : List Line).all (Line.holds "BCC") = true := by decide

theorem test_decode_BCS : ([⟨0xB0, .rel, 2, .bcs 0x12⟩] : List Line).all (Line.holds "BCS") = true := by decide

theorem test_decode_BNE : ([⟨0xD0, .rel, 2, .bne 0x12⟩] : List Line).all (Line.holds "BNE") = true := by decide

theorem test_decode_BEQ : ([⟨0xF0, .rel, 2, .beq 0x12⟩] : List Line).all (Line.holds "BEQ") = true := by decide

theorem test_decode_BRK : ([⟨0x00, .none, 7, .brk⟩] : List Line).all (Line.holds "BRK") = true := by decide

theorem test_decode_NOP : ([⟨0xEA, .none, 2, .nop⟩] : List Line).all (Line.holds "NOP") = true := by decide

theorem test_decode_CLC : ([⟨0x18, .none, 2, .clc⟩] : List Line).all (Line.holds "CLC") = true := by decide

theorem test_decode_SEC : ([⟨0x38, .none, 2, .sec⟩] : List Line).all (Line.holds "SEC") = true := by decide

theorem test_decode_CLI : ([⟨0x58, .none, 2, .cli⟩] : List Line).all (Line.holds "CLI") = true := by decide

theorem test_decode_SEI : ([⟨0x78, .none, 2, .sei⟩] : List Line).all (Line.holds "SEI") = true := by decide

theorem test_decode_CLV : ([⟨0xB8, .none, 2, .clv⟩] : List Line).all (Line.holds "CLV") = true := by decide

theorem test_decode_CLD : ([⟨0xD8, .none, 2, .cld⟩] : List Line).all (Line.holds "CLD") = true := by decide

theorem test_decode_SED : ([⟨0xF8, .none, 2, .sed⟩] : List Line).all (Line.holds "SED") = true := by decide

theorem test_decode_PHA : ([⟨0x48, .none, 3, .pha⟩] : List Line).all (Line.holds "PHA") = true := by decide

theorem test_decode_PLA : ([⟨0x68, .none, 4, .pla⟩] : List Line).all (Line.holds "PLA") = true := by decide

theorem test_decode_PHP : ([⟨0x08, .none, 3, .php⟩] : List Line).all (Line.holds "PHP") = true := by decide

theorem test_decode_PLP : ([⟨0x28, .none, 4, .plp⟩] : List Line).all (Line.holds "PLP") = true := by decide

theorem test_decode_SLO : ([⟨0x07, .zp, 5, .sloZp 0x12⟩, ⟨0x17, .zpx, 6, .sloZpx 0x12⟩,
    ⟨0x0F, .abs, 6, .sloAbs 0x3412⟩, ⟨0x1F, .abx, 7, .sloAbx 0x3412⟩, ⟨0x1B, .aby, 7, .sloAby 0x3412⟩,
    ⟨0x03, .izx, 8, .sloIzx 0x12⟩, ⟨0x13, .izy, 8, .sloIzy 0x12⟩
    ] : List Line).all (Line.holds "SLO") = true := by decide

theorem test_decode_RLA : ([⟨0x27, .zp, 5, .rlaZp 0x12⟩, ⟨0x37, .zpx, 6, .rlaZpx 0x12⟩,
    ⟨0x2F, .abs, 6, .rlaAbs 0x3412⟩, ⟨0x3F, .abx, 7, .rlaAbx 0x3412⟩, ⟨0x3B, .aby, 7, .rlaAby 0x3412⟩,
    ⟨0x23, .izx, 8, .rlaIzx 0x12⟩, ⟨0x33, .izy, 8, .rlaIzy 0x12⟩
    ] : List Line).all (Line.holds "RLA") = true := by decide

theorem test_decode_SRE : ([⟨0x47, .zp, 5, .sreZp 0x12⟩, ⟨0x57, .zpx, 6, .sreZpx 0x12⟩,
    ⟨0x4F, .abs, 6, .sreAbs 0x3412⟩, ⟨0x5F, .abx, 7, .sreAbx 0x3412⟩, ⟨0x5B, .aby, 7, .sreAby 0x3412⟩,
    ⟨0x43, .izx, 8, .sreIzx 0x12⟩, ⟨0x53, .izy, 8, .sreIzy 0x12⟩
    ] : List Line).all (Line.holds "SRE") = true := by decide

theorem test_decode_RRA : ([⟨0x67, .zp, 5, .rraZp 0x12⟩, ⟨0x77, .zpx, 6, .rraZpx 0x12⟩,
    ⟨0x6F, .abs, 6, .rraAbs 0x3412⟩, ⟨0x7F, .abx, 7, .rraAbx 0x3412⟩, ⟨0x7B, .aby, 7, .rraAby 0x3412⟩,
    ⟨0x63, .izx, 8, .rraIzx 0x12⟩, ⟨0x73, .izy, 8, .rraIzy 0x12⟩
    ] : List Line).all (Line.holds "RRA") = true := by decide

theorem test_decode_DCP : ([⟨0xC7, .zp, 5, .dcpZp 0x12⟩, ⟨0xD7, .zpx, 6, .dcpZpx 0x12⟩,
    ⟨0xCF, .abs, 6, .dcpAbs 0x3412⟩, ⟨0xDF, .abx, 7, .dcpAbx 0x3412⟩, ⟨0xDB, .aby, 7, .dcpAby 0x3412⟩,
    ⟨0xC3, .izx, 8, .dcpIzx 0x12⟩, ⟨0xD3, .izy, 8, .dcpIzy 0x12⟩
    ] : List Line).all (Line.holds "DCP") = true := by decide

theorem test_decode_ISC : ([⟨0xE7, .zp, 5, .iscZp 0x12⟩, ⟨0xF7, .zpx, 6, .iscZpx 0x12⟩,
    ⟨0xEF, .abs, 6, .iscAbs 0x3412⟩, ⟨0xFF, .abx, 7, .iscAbx 0x3412⟩, ⟨0xFB, .aby, 7, .iscAby 0x3412⟩,
    ⟨0xE3, .izx, 8, .iscIzx 0x12⟩, ⟨0xF3, .izy, 8, .iscIzy 0x12⟩
    ] : List Line).all (Line.holds "ISC") = true := by decide

theorem test_decode_SAX : ([⟨0x87, .zp, 3, .saxZp 0x12⟩, ⟨0x97, .zpy, 4, .saxZpy 0x12⟩,
    ⟨0x8F, .abs, 4, .saxAbs 0x3412⟩, ⟨0x83, .izx, 6, .saxIzx 0x12⟩
    ] : List Line).all (Line.holds "SAX") = true := by decide

theorem test_decode_LAX : ([⟨0xA7, .zp, 3, .laxZp 0x12⟩, ⟨0xB7, .zpy, 4, .laxZpy 0x12⟩,
    ⟨0xAF, .abs, 4, .laxAbs 0x3412⟩, ⟨0xBF, .aby, 4, .laxAby 0x3412⟩, ⟨0xA3, .izx, 6, .laxIzx 0x12⟩,
    ⟨0xB3, .izy, 5, .laxIzy 0x12⟩] : List Line).all (Line.holds "LAX") = true := by decide

theorem test_decode_ANC : ([⟨0x0B, .imm, 2, .ancImm0B 0x12⟩, ⟨0x2B, .imm, 2, .ancImm2B 0x12⟩
    ] : List Line).all (Line.holds "ANC") = true := by decide

theorem test_decode_ALR : ([⟨0x4B, .imm, 2, .alrImm 0x12⟩] : List Line).all (Line.holds "ALR") = true := by decide

theorem test_decode_ARR : ([⟨0x6B, .imm, 2, .arrImm 0x12⟩] : List Line).all (Line.holds "ARR") = true := by decide

theorem test_decode_AXS : ([⟨0xCB, .imm, 2, .axsImm 0x12⟩] : List Line).all (Line.holds "AXS") = true := by decide

theorem test_decode_SHY : ([⟨0x9C, .abx, 5, .shyAbx 0x3412⟩] : List Line).all (Line.holds "SHY") = true := by decide

theorem test_decode_SHX : ([⟨0x9E, .aby, 5, .shxAby 0x3412⟩] : List Line).all (Line.holds "SHX") = true := by decide

theorem test_decode_SBC_second : ([⟨0xEB, .imm, 2, .sbcImmEB 0x12⟩
    ] : List Line).all (Line.holds "SBC") = true := by decide

theorem test_decode_NOP_none : ([⟨0x1A, .none, 2, .nop1A⟩, ⟨0x3A, .none, 2, .nop3A⟩, ⟨0x5A, .none, 2, .nop5A⟩,
    ⟨0x7A, .none, 2, .nop7A⟩, ⟨0xDA, .none, 2, .nopDA⟩, ⟨0xFA, .none, 2, .nopFA⟩
    ] : List Line).all (Line.holds "NOP") = true := by decide

theorem test_decode_NOP_imm : ([⟨0x80, .imm, 2, .nopImm80 0x12⟩, ⟨0x82, .imm, 2, .nopImm82 0x12⟩,
    ⟨0x89, .imm, 2, .nopImm89 0x12⟩, ⟨0xC2, .imm, 2, .nopImmC2 0x12⟩, ⟨0xE2, .imm, 2, .nopImmE2 0x12⟩
    ] : List Line).all (Line.holds "NOP") = true := by decide

theorem test_decode_NOP_zp : ([⟨0x04, .zp, 3, .nopZp04 0x12⟩, ⟨0x44, .zp, 3, .nopZp44 0x12⟩,
    ⟨0x64, .zp, 3, .nopZp64 0x12⟩] : List Line).all (Line.holds "NOP") = true := by decide

theorem test_decode_NOP_zpx : ([⟨0x14, .zpx, 4, .nopZpx14 0x12⟩, ⟨0x34, .zpx, 4, .nopZpx34 0x12⟩,
    ⟨0x54, .zpx, 4, .nopZpx54 0x12⟩, ⟨0x74, .zpx, 4, .nopZpx74 0x12⟩, ⟨0xD4, .zpx, 4, .nopZpxD4 0x12⟩,
    ⟨0xF4, .zpx, 4, .nopZpxF4 0x12⟩] : List Line).all (Line.holds "NOP") = true := by decide

theorem test_decode_NOP_abs : ([⟨0x0C, .abs, 4, .nopAbs0C 0x3412⟩
    ] : List Line).all (Line.holds "NOP") = true := by decide

theorem test_decode_NOP_abx : ([⟨0x1C, .abx, 4, .nopAbx1C 0x3412⟩, ⟨0x3C, .abx, 4, .nopAbx3C 0x3412⟩,
    ⟨0x5C, .abx, 4, .nopAbx5C 0x3412⟩, ⟨0x7C, .abx, 4, .nopAbx7C 0x3412⟩, ⟨0xDC, .abx, 4, .nopAbxDC 0x3412⟩,
    ⟨0xFC, .abx, 4, .nopAbxFC 0x3412⟩] : List Line).all (Line.holds "NOP") = true := by decide

theorem test_decode_UNK : ([⟨0x02, .none, 0, .unk02⟩, ⟨0x12, .none, 0, .unk12⟩, ⟨0x22, .none, 0, .unk22⟩,
    ⟨0x32, .none, 0, .unk32⟩, ⟨0x42, .none, 0, .unk42⟩, ⟨0x52, .none, 0, .unk52⟩, ⟨0x62, .none, 0, .unk62⟩,
    ⟨0x72, .none, 0, .unk72⟩, ⟨0x92, .none, 0, .unk92⟩, ⟨0xB2, .none, 0, .unkB2⟩, ⟨0xD2, .none, 0, .unkD2⟩,
    ⟨0xF2, .none, 0, .unkF2⟩, ⟨0x8B, .none, 0, .unk8B⟩, ⟨0x93, .none, 0, .unk93⟩, ⟨0x9B, .none, 0, .unk9B⟩,
    ⟨0x9F, .none, 0, .unk9F⟩, ⟨0xAB, .none, 0, .unkAB⟩, ⟨0xBB, .none, 0, .unkBB⟩
    ] : List Line).all (Line.holds "UNK") = true := by decide

/-! ## One-step cases -/

/-- A case: the code at an address, bytes in memory, the registers at the start, and `decimalDisabled`. -/
structure Case where
  code : List Byte
  at' : Word := 0x0600
  mem : List (Word × Byte) := []
  a : Byte := 0xAA
  x : Byte := 0x00
  y : Byte := 0x00
  sp : Byte := 0xFD
  p : Byte := 0x34
  binaryOnly : Bool := false

/-- The registers A, X, Y, SP, P, PC. -/
structure Regs where
  a : Byte
  x : Byte
  y : Byte
  sp : Byte
  p : Byte
  pc : Word
  deriving DecidableEq

def regsOf (s : State) : Regs := ⟨s.a, s.x, s.y, s.sp, s.p, s.pc⟩

/-- A state with single bytes filled in. -/
def fillAll (s : State) (cells : List (Word × Byte)) : State := cells.foldl (fun s c => s.fill c.1 c.2) s

/-- The state a case starts from. -/
def Case.start (c : Case) : State :=
  ((fillAll (State.reset.load c.at' c.code) c.mem).hostWrite c.a c.x c.y c.sp c.p c.at').setDecimalDisabled c.binaryOnly

/-- A step gives these registers, this wait, and these bytes at these addresses. -/
def stepGives (s : State) (r : Regs) (wait : Nat) (cells : List (Word × Byte)) : Bool :=
  match step s with
  | .next t => regsOf t == r && t.waitCycles == wait && cells.all fun c => t.peek c.1 == c.2
  | .fault _ => false
  | .refused _ => false

def Case.gives (c : Case) (r : Regs) (wait : Nat) (cells : List (Word × Byte)) : Bool := stepGives c.start r wait cells

/-! ## Addressing modes (B.1) -/

theorem test_M1_ldaImm : Case.gives { code := [0xA9, 0x42] }
    ⟨0x42, 0x00, 0x00, 0xFD, 0x34, 0x0602⟩ 2 [] = true := by decide

theorem test_M2_ldaZpx : Case.gives { code := [0xB5, 0xFF], mem := [(0x0001, 0x33), (0x0101, 0x44)], x := 0x02 }
    ⟨0x33, 0x02, 0x00, 0xFD, 0x34, 0x0602⟩ 4 [] = true := by decide

theorem test_M3_ldxZpy : Case.gives { code := [0xB6, 0xFF], mem := [(0x0000, 0x80)], y := 0x01 }
    ⟨0xAA, 0x80, 0x01, 0xFD, 0xB4, 0x0602⟩ 4 [] = true := by decide

theorem test_M4_ldaIzx : Case.gives {
      code := [0xA1, 0xFF], mem := [(0x00FF, 0x34), (0x0000, 0x12), (0x0100, 0x99), (0x1234, 0x5A)], x := 0x00 }
    ⟨0x5A, 0x00, 0x00, 0xFD, 0x34, 0x0602⟩ 6 [] = true := by decide

theorem test_M5_ldaIzx : Case.gives {
      code := [0xA1, 0xFE], mem := [(0x0001, 0x00), (0x0002, 0x03), (0x0300, 0x7E)], x := 0x03 }
    ⟨0x7E, 0x03, 0x00, 0xFD, 0x34, 0x0602⟩ 6 [] = true := by decide

theorem test_M6_ldaIzy : Case.gives {
      code := [0xB1, 0xFF], mem := [(0x00FF, 0xF0), (0x0000, 0x02), (0x0300, 0x11)], y := 0x10 }
    ⟨0x11, 0x00, 0x10, 0xFD, 0x34, 0x0602⟩ 6 [] = true := by decide

theorem test_M7_ldaIzy : Case.gives {
      code := [0xB1, 0x10], mem := [(0x0010, 0xFF), (0x0011, 0xFF), (0x0001, 0x66)], y := 0x02 }
    ⟨0x66, 0x00, 0x02, 0xFD, 0x34, 0x0602⟩ 6 [] = true := by decide

theorem test_M8_ldaAbx : Case.gives { code := [0xBD, 0x80, 0x02], mem := [(0x02FF, 0x21)], x := 0x7F }
    ⟨0x21, 0x7F, 0x00, 0xFD, 0x34, 0x0603⟩ 4 [] = true := by decide

theorem test_M9_ldaAbx : Case.gives { code := [0xBD, 0x80, 0x02], mem := [(0x0300, 0x22)], x := 0x80 }
    ⟨0x22, 0x80, 0x00, 0xFD, 0x34, 0x0603⟩ 5 [] = true := by decide

theorem test_M10_ldaAby : Case.gives { code := [0xB9, 0xFF, 0xFF], mem := [(0x0000, 0x23)], y := 0x01 }
    ⟨0x23, 0x00, 0x01, 0xFD, 0x34, 0x0603⟩ 5 [] = true := by decide

theorem test_M11_jmpInd : Case.gives { code := [0x6C, 0x00, 0x03], mem := [(0x0300, 0x78), (0x0301, 0x56)] }
    ⟨0xAA, 0x00, 0x00, 0xFD, 0x34, 0x5678⟩ 5 [] = true := by decide

theorem test_M12_jmpInd : Case.gives {
      code := [0x6C, 0xFF, 0x10], mem := [(0x10FF, 0x34), (0x1000, 0x12), (0x1100, 0x99)] }
    ⟨0xAA, 0x00, 0x00, 0xFD, 0x34, 0x1234⟩ 5 [] = true := by decide

theorem test_M13_ldaImm : Case.gives { code := [0xA9, 0x42], at' := 0xFFFF }
    ⟨0x42, 0x00, 0x00, 0xFD, 0x34, 0x0001⟩ 2 [] = true := by decide

/-! ## Loads, stores, transfers (B.2) -/

theorem test_L3_ldxImm : Case.gives { code := [0xA2, 0x7F] }
    ⟨0xAA, 0x7F, 0x00, 0xFD, 0x34, 0x0602⟩ 2 [] = true := by decide

theorem test_L4_ldxAby : Case.gives { code := [0xBE, 0xF0, 0x02], mem := [(0x0310, 0x00)], y := 0x20 }
    ⟨0xAA, 0x00, 0x20, 0xFD, 0x36, 0x0603⟩ 5 [] = true := by decide

theorem test_L5_ldyAbx : Case.gives { code := [0xBC, 0x00, 0x02], mem := [(0x0201, 0xFF)], x := 0x01 }
    ⟨0xAA, 0x01, 0xFF, 0xFD, 0xB4, 0x0603⟩ 4 [] = true := by decide

theorem test_L6_staAbs : Case.gives { code := [0x8D, 0x00, 0x02], a := 0x5A }
    ⟨0x5A, 0x00, 0x00, 0xFD, 0x34, 0x0603⟩ 4 [(0x0200, 0x5A)] = true := by decide

theorem test_L7_staAbx : Case.gives { code := [0x9D, 0xFF, 0x02], a := 0x5A, x := 0x01 }
    ⟨0x5A, 0x01, 0x00, 0xFD, 0x34, 0x0603⟩ 6 [(0x0300, 0x5A)] = true := by decide

theorem test_L8_staIzy : Case.gives {
      code := [0x91, 0x10], mem := [(0x0010, 0x01), (0x0011, 0x02)], a := 0x01, y := 0xFF }
    ⟨0x01, 0x00, 0xFF, 0xFD, 0x34, 0x0602⟩ 7 [(0x0300, 0x01)] = true := by decide

theorem test_L9_stxZpy : Case.gives { code := [0x96, 0xFF], x := 0x01, y := 0x02 }
    ⟨0xAA, 0x01, 0x02, 0xFD, 0x34, 0x0602⟩ 4 [(0x0001, 0x01)] = true := by decide

theorem test_L10_styZp : Case.gives { code := [0x84, 0x10], y := 0x7F }
    ⟨0xAA, 0x00, 0x7F, 0xFD, 0x34, 0x0602⟩ 3 [(0x0010, 0x7F)] = true := by decide

theorem test_L11_tax : Case.gives { code := [0xAA], a := 0x80 }
    ⟨0x80, 0x80, 0x00, 0xFD, 0xB4, 0x0601⟩ 2 [] = true := by decide

theorem test_L12_txa : Case.gives { code := [0x8A], a := 0x55, x := 0x00 }
    ⟨0x00, 0x00, 0x00, 0xFD, 0x36, 0x0601⟩ 2 [] = true := by decide

theorem test_L13_tay : Case.gives { code := [0xA8], a := 0x01 }
    ⟨0x01, 0x00, 0x01, 0xFD, 0x34, 0x0601⟩ 2 [] = true := by decide

theorem test_L14_tya : Case.gives { code := [0x98], a := 0x00, y := 0xFF }
    ⟨0xFF, 0x00, 0xFF, 0xFD, 0xB4, 0x0601⟩ 2 [] = true := by decide

theorem test_L15_tsx : Case.gives { code := [0xBA] }
    ⟨0xAA, 0xFD, 0x00, 0xFD, 0xB4, 0x0601⟩ 2 [] = true := by decide

theorem test_L16_txs : Case.gives { code := [0x9A], x := 0x00 }
    ⟨0xAA, 0x00, 0x00, 0x00, 0x34, 0x0601⟩ 2 [] = true := by decide

/-! ## Arithmetic (B.3) -/

theorem test_A1_adcImm : Case.gives { code := [0x69, 0x50], a := 0x50, p := 0x30 }
    ⟨0xA0, 0x00, 0x00, 0xFD, 0xF0, 0x0602⟩ 2 [] = true := by decide

theorem test_A2_adcImm : Case.gives { code := [0x69, 0x01], a := 0xFF, p := 0x30 }
    ⟨0x00, 0x00, 0x00, 0xFD, 0x33, 0x0602⟩ 2 [] = true := by decide

theorem test_A7_sbcImm : Case.gives { code := [0xE9, 0x01], a := 0x00, p := 0x30 }
    ⟨0xFE, 0x00, 0x00, 0xFD, 0xB0, 0x0602⟩ 2 [] = true := by decide

theorem test_A8_sbcImm : Case.gives { code := [0xE9, 0xF0], a := 0x50, p := 0x31 }
    ⟨0x60, 0x00, 0x00, 0xFD, 0x30, 0x0602⟩ 2 [] = true := by decide

/-! ## Logic and shifts (B.4) -/

theorem test_G1_andImm : Case.gives { code := [0x29, 0x0F], a := 0xF0 }
    ⟨0x00, 0x00, 0x00, 0xFD, 0x36, 0x0602⟩ 2 [] = true := by decide

theorem test_G2_oraImm : Case.gives { code := [0x09, 0x80], a := 0x01 }
    ⟨0x81, 0x00, 0x00, 0xFD, 0xB4, 0x0602⟩ 2 [] = true := by decide

theorem test_G3_eorImm : Case.gives { code := [0x49, 0xFF], a := 0xAA }
    ⟨0x55, 0x00, 0x00, 0xFD, 0x34, 0x0602⟩ 2 [] = true := by decide

theorem test_G4_bitZp : Case.gives { code := [0x24, 0x10], mem := [(0x0010, 0xF0)], a := 0x0F }
    ⟨0x0F, 0x00, 0x00, 0xFD, 0xF6, 0x0602⟩ 3 [] = true := by decide

theorem test_G5_bitAbs : Case.gives { code := [0x2C, 0x00, 0x02], mem := [(0x0200, 0x01)], a := 0x01, p := 0xF4 }
    ⟨0x01, 0x00, 0x00, 0xFD, 0x34, 0x0603⟩ 4 [] = true := by decide

theorem test_G6_aslA : Case.gives { code := [0x0A], a := 0x81 }
    ⟨0x02, 0x00, 0x00, 0xFD, 0x35, 0x0601⟩ 2 [] = true := by decide

theorem test_G7_aslA : Case.gives { code := [0x0A], a := 0x80 }
    ⟨0x00, 0x00, 0x00, 0xFD, 0x37, 0x0601⟩ 2 [] = true := by decide

theorem test_G8_lsrA : Case.gives { code := [0x4A], a := 0x01 }
    ⟨0x00, 0x00, 0x00, 0xFD, 0x37, 0x0601⟩ 2 [] = true := by decide

theorem test_G9_lsrA : Case.gives { code := [0x4A], a := 0xFF, p := 0xB4 }
    ⟨0x7F, 0x00, 0x00, 0xFD, 0x35, 0x0601⟩ 2 [] = true := by decide

theorem test_G10_rolA : Case.gives { code := [0x2A], a := 0x80, p := 0x35 }
    ⟨0x01, 0x00, 0x00, 0xFD, 0x35, 0x0601⟩ 2 [] = true := by decide

theorem test_G11_rorA : Case.gives { code := [0x6A], a := 0x01, p := 0x35 }
    ⟨0x80, 0x00, 0x00, 0xFD, 0xB5, 0x0601⟩ 2 [] = true := by decide

theorem test_G12_rorA : Case.gives { code := [0x6A], a := 0x01, p := 0x34 }
    ⟨0x00, 0x00, 0x00, 0xFD, 0x37, 0x0601⟩ 2 [] = true := by decide

theorem test_G13_aslZp : Case.gives { code := [0x06, 0x10], mem := [(0x0010, 0xC1)] }
    ⟨0xAA, 0x00, 0x00, 0xFD, 0xB5, 0x0602⟩ 5 [(0x0010, 0x82)] = true := by decide

theorem test_G14_lsrZp : Case.gives { code := [0x46, 0x10], mem := [(0x0010, 0x01)] }
    ⟨0xAA, 0x00, 0x00, 0xFD, 0x37, 0x0602⟩ 5 [(0x0010, 0x00)] = true := by decide

theorem test_G15_rolAbs : Case.gives { code := [0x2E, 0x00, 0x02], mem := [(0x0200, 0x7F)], p := 0x35 }
    ⟨0xAA, 0x00, 0x00, 0xFD, 0xB4, 0x0603⟩ 6 [(0x0200, 0xFF)] = true := by decide

theorem test_G16_rorAbx : Case.gives { code := [0x7E, 0xFF, 0x01], mem := [(0x0200, 0x01)], x := 0x01 }
    ⟨0xAA, 0x01, 0x00, 0xFD, 0x37, 0x0603⟩ 8 [(0x0200, 0x00)] = true := by decide

theorem test_G17_rorZpx : Case.gives { code := [0x76, 0xFF], mem := [(0x0000, 0x00)], x := 0x01, p := 0x35 }
    ⟨0xAA, 0x01, 0x00, 0xFD, 0xB4, 0x0602⟩ 6 [(0x0000, 0x80)] = true := by decide

/-! ## Increments and compares (B.5) -/

theorem test_I1_incZp : Case.gives { code := [0xE6, 0x10], mem := [(0x0010, 0xFF)] }
    ⟨0xAA, 0x00, 0x00, 0xFD, 0x36, 0x0602⟩ 5 [(0x0010, 0x00)] = true := by decide

theorem test_I2_incZp : Case.gives { code := [0xE6, 0x10], mem := [(0x0010, 0x7F)] }
    ⟨0xAA, 0x00, 0x00, 0xFD, 0xB4, 0x0602⟩ 5 [(0x0010, 0x80)] = true := by decide

theorem test_I3_decAbs : Case.gives { code := [0xCE, 0x00, 0x02], mem := [(0x0200, 0x00)] }
    ⟨0xAA, 0x00, 0x00, 0xFD, 0xB4, 0x0603⟩ 6 [(0x0200, 0xFF)] = true := by decide

theorem test_I4_decAbx : Case.gives { code := [0xDE, 0xFF, 0x02], mem := [(0x0300, 0x01)], x := 0x01 }
    ⟨0xAA, 0x01, 0x00, 0xFD, 0x36, 0x0603⟩ 8 [(0x0300, 0x00)] = true := by decide

theorem test_I5_inx : Case.gives { code := [0xE8], x := 0xFF }
    ⟨0xAA, 0x00, 0x00, 0xFD, 0x36, 0x0601⟩ 2 [] = true := by decide

theorem test_I6_iny : Case.gives { code := [0xC8], y := 0x7F }
    ⟨0xAA, 0x00, 0x80, 0xFD, 0xB4, 0x0601⟩ 2 [] = true := by decide

theorem test_I7_dex : Case.gives { code := [0xCA], x := 0x00 }
    ⟨0xAA, 0xFF, 0x00, 0xFD, 0xB4, 0x0601⟩ 2 [] = true := by decide

theorem test_I8_dey : Case.gives { code := [0x88], y := 0x01 }
    ⟨0xAA, 0x00, 0x00, 0xFD, 0x36, 0x0601⟩ 2 [] = true := by decide

theorem test_I9_cmpImm : Case.gives { code := [0xC9, 0x40], a := 0x40 }
    ⟨0x40, 0x00, 0x00, 0xFD, 0x37, 0x0602⟩ 2 [] = true := by decide

theorem test_I10_cmpImm : Case.gives { code := [0xC9, 0x41], a := 0x40 }
    ⟨0x40, 0x00, 0x00, 0xFD, 0xB4, 0x0602⟩ 2 [] = true := by decide

theorem test_I13_cpxImm : Case.gives { code := [0xE0, 0x11], x := 0x10 }
    ⟨0xAA, 0x10, 0x00, 0xFD, 0xB4, 0x0602⟩ 2 [] = true := by decide

theorem test_I14_cpyImm : Case.gives { code := [0xC0, 0x03], y := 0x05 }
    ⟨0xAA, 0x00, 0x05, 0xFD, 0x35, 0x0602⟩ 2 [] = true := by decide

theorem test_I15_cmpZp : Case.gives { code := [0xC5, 0x10], mem := [(0x0010, 0x00)], a := 0xFF, p := 0x74 }
    ⟨0xFF, 0x00, 0x00, 0xFD, 0xF5, 0x0602⟩ 3 [] = true := by decide

/-! ## Control flow (B.6) -/

theorem test_F1_jmpAbs : Case.gives { code := [0x4C, 0x34, 0x12] }
    ⟨0xAA, 0x00, 0x00, 0xFD, 0x34, 0x1234⟩ 3 [] = true := by decide

theorem test_F2_jsr : Case.gives { code := [0x20, 0x00, 0x07] }
    ⟨0xAA, 0x00, 0x00, 0xFB, 0x34, 0x0700⟩ 6 [(0x01FD, 0x06), (0x01FC, 0x02)] = true := by decide

theorem test_F3_rts : Case.gives { code := [0x60], mem := [(0x01FC, 0x02), (0x01FD, 0x06)], sp := 0xFB }
    ⟨0xAA, 0x00, 0x00, 0xFD, 0x34, 0x0603⟩ 6 [] = true := by decide

theorem test_F4_rti : Case.gives {
      code := [0x40], mem := [(0x01FB, 0xC3), (0x01FC, 0x34), (0x01FD, 0x12)], sp := 0xFA, p := 0x34 }
    ⟨0xAA, 0x00, 0x00, 0xFD, 0xF3, 0x1234⟩ 6 [] = true := by decide

theorem test_F6_rts : Case.gives { code := [0x60], mem := [(0x0100, 0xFF), (0x0101, 0xFF)], sp := 0xFF }
    ⟨0xAA, 0x00, 0x00, 0x01, 0x34, 0x0000⟩ 6 [] = true := by decide

theorem test_F7_bpl : Case.gives { code := [0x10, 0x10], p := 0x30 }
    ⟨0xAA, 0x00, 0x00, 0xFD, 0x30, 0x0612⟩ 2 [] = true := by decide

theorem test_F8_bpl : Case.gives { code := [0x10, 0x10], p := 0xB0 }
    ⟨0xAA, 0x00, 0x00, 0xFD, 0xB0, 0x0602⟩ 2 [] = true := by decide

theorem test_F9_bmi : Case.gives { code := [0x30, 0x10], p := 0x30 }
    ⟨0xAA, 0x00, 0x00, 0xFD, 0x30, 0x0602⟩ 2 [] = true := by decide

theorem test_F10_bmi : Case.gives { code := [0x30, 0x10], p := 0xB0 }
    ⟨0xAA, 0x00, 0x00, 0xFD, 0xB0, 0x0612⟩ 2 [] = true := by decide

theorem test_F11_bvc : Case.gives { code := [0x50, 0x10], p := 0x30 }
    ⟨0xAA, 0x00, 0x00, 0xFD, 0x30, 0x0612⟩ 2 [] = true := by decide

theorem test_F12_bvc : Case.gives { code := [0x50, 0x10], p := 0x70 }
    ⟨0xAA, 0x00, 0x00, 0xFD, 0x70, 0x0602⟩ 2 [] = true := by decide

theorem test_F13_bvs : Case.gives { code := [0x70, 0x10], p := 0x30 }
    ⟨0xAA, 0x00, 0x00, 0xFD, 0x30, 0x0602⟩ 2 [] = true := by decide

theorem test_F14_bvs : Case.gives { code := [0x70, 0x10], p := 0x70 }
    ⟨0xAA, 0x00, 0x00, 0xFD, 0x70, 0x0612⟩ 2 [] = true := by decide

theorem test_F15_bcc : Case.gives { code := [0x90, 0x10], p := 0x30 }
    ⟨0xAA, 0x00, 0x00, 0xFD, 0x30, 0x0612⟩ 2 [] = true := by decide

theorem test_F16_bcc : Case.gives { code := [0x90, 0x10], p := 0x31 }
    ⟨0xAA, 0x00, 0x00, 0xFD, 0x31, 0x0602⟩ 2 [] = true := by decide

theorem test_F17_bcs : Case.gives { code := [0xB0, 0x10], p := 0x30 }
    ⟨0xAA, 0x00, 0x00, 0xFD, 0x30, 0x0602⟩ 2 [] = true := by decide

theorem test_F18_bcs : Case.gives { code := [0xB0, 0x10], p := 0x31 }
    ⟨0xAA, 0x00, 0x00, 0xFD, 0x31, 0x0612⟩ 2 [] = true := by decide

theorem test_F19_bne : Case.gives { code := [0xD0, 0x10], p := 0x30 }
    ⟨0xAA, 0x00, 0x00, 0xFD, 0x30, 0x0612⟩ 2 [] = true := by decide

theorem test_F20_bne : Case.gives { code := [0xD0, 0x10], p := 0x32 }
    ⟨0xAA, 0x00, 0x00, 0xFD, 0x32, 0x0602⟩ 2 [] = true := by decide

theorem test_F21_beq : Case.gives { code := [0xF0, 0x10], p := 0x30 }
    ⟨0xAA, 0x00, 0x00, 0xFD, 0x30, 0x0602⟩ 2 [] = true := by decide

theorem test_F22_beq : Case.gives { code := [0xF0, 0x10], p := 0x32 }
    ⟨0xAA, 0x00, 0x00, 0xFD, 0x32, 0x0612⟩ 2 [] = true := by decide

/-! ## System, flags, stack (B.7) -/

theorem test_S1_brk : Case.gives {
      code := [0x00, 0x00], at' := 0x0400,
      mem := [(0x0400, 0x00), (0x0401, 0x00), (0xFFFE, 0x00), (0xFFFF, 0x08), (0x0800, 0x40)], p := 0x20 }
    ⟨0xAA, 0x00, 0x00, 0xFA, 0x24, 0x0800⟩ 7 [(0x01FD, 0x04), (0x01FC, 0x02), (0x01FB, 0x30)] = true := by decide

theorem test_S3_brk : Case.gives { code := [0x00], mem := [(0xFFFE, 0x00), (0xFFFF, 0x08)], p := 0xFF }
    ⟨0xAA, 0x00, 0x00, 0xFA, 0xFF, 0x0800⟩ 7 [(0x01FD, 0x06), (0x01FC, 0x02), (0x01FB, 0xFF)] = true := by decide

theorem test_S4_nop : Case.gives { code := [0xEA] }
    ⟨0xAA, 0x00, 0x00, 0xFD, 0x34, 0x0601⟩ 2 [] = true := by decide

theorem test_S5_clc : Case.gives { code := [0x18], p := 0xFF }
    ⟨0xAA, 0x00, 0x00, 0xFD, 0xFE, 0x0601⟩ 2 [] = true := by decide

theorem test_S6_sec : Case.gives { code := [0x38], p := 0x30 }
    ⟨0xAA, 0x00, 0x00, 0xFD, 0x31, 0x0601⟩ 2 [] = true := by decide

theorem test_S7_cli : Case.gives { code := [0x58], p := 0xFF }
    ⟨0xAA, 0x00, 0x00, 0xFD, 0xFB, 0x0601⟩ 2 [] = true := by decide

theorem test_S8_sei : Case.gives { code := [0x78], p := 0x30 }
    ⟨0xAA, 0x00, 0x00, 0xFD, 0x34, 0x0601⟩ 2 [] = true := by decide

theorem test_S9_clv : Case.gives { code := [0xB8], p := 0xFF }
    ⟨0xAA, 0x00, 0x00, 0xFD, 0xBF, 0x0601⟩ 2 [] = true := by decide

theorem test_S10_cld : Case.gives { code := [0xD8], p := 0xFF }
    ⟨0xAA, 0x00, 0x00, 0xFD, 0xF7, 0x0601⟩ 2 [] = true := by decide

theorem test_S11_sed : Case.gives { code := [0xF8], p := 0x30 }
    ⟨0xAA, 0x00, 0x00, 0xFD, 0x38, 0x0601⟩ 2 [] = true := by decide

theorem test_S12_pha : Case.gives { code := [0x48], a := 0x80 }
    ⟨0x80, 0x00, 0x00, 0xFC, 0x34, 0x0601⟩ 3 [(0x01FD, 0x80)] = true := by decide

theorem test_S13_pla : Case.gives { code := [0x68], mem := [(0x01FD, 0x00)], a := 0x11, sp := 0xFC }
    ⟨0x00, 0x00, 0x00, 0xFD, 0x36, 0x0601⟩ 4 [] = true := by decide

theorem test_S15_php : Case.gives { code := [0x08], p := 0x00 }
    ⟨0xAA, 0x00, 0x00, 0xFC, 0x00, 0x0601⟩ 3 [(0x01FD, 0x30)] = true := by decide

theorem test_S16_plp : Case.gives { code := [0x28], mem := [(0x01FD, 0xCF)], sp := 0xFC, p := 0x34 }
    ⟨0xAA, 0x00, 0x00, 0xFD, 0xFF, 0x0601⟩ 4 [] = true := by decide

theorem test_S17_plp : Case.gives { code := [0x28], mem := [(0x01FD, 0x00)], sp := 0xFC, p := 0xFF }
    ⟨0xAA, 0x00, 0x00, 0xFD, 0x30, 0x0601⟩ 4 [] = true := by decide

theorem test_S19_pha : Case.gives { code := [0x48], a := 0x77, sp := 0x00 }
    ⟨0x77, 0x00, 0x00, 0xFF, 0x34, 0x0601⟩ 3 [(0x0100, 0x77)] = true := by decide

/-! ## Undocumented instructions (B.8) -/

theorem test_X1_sloZp : Case.gives { code := [0x07, 0x10], mem := [(0x0010, 0x81)], a := 0x01, p := 0x30 }
    ⟨0x03, 0x00, 0x00, 0xFD, 0x31, 0x0602⟩ 5 [(0x0010, 0x02)] = true := by decide

theorem test_X2_rlaZp : Case.gives { code := [0x27, 0x10], mem := [(0x0010, 0x81)], a := 0x0F, p := 0x31 }
    ⟨0x03, 0x00, 0x00, 0xFD, 0x31, 0x0602⟩ 5 [(0x0010, 0x03)] = true := by decide

theorem test_X3_sreZp : Case.gives { code := [0x47, 0x10], mem := [(0x0010, 0x03)], a := 0xFF, p := 0x30 }
    ⟨0xFE, 0x00, 0x00, 0xFD, 0xB1, 0x0602⟩ 5 [(0x0010, 0x01)] = true := by decide

theorem test_X4_rraZp : Case.gives { code := [0x67, 0x10], mem := [(0x0010, 0x03)], a := 0x10, p := 0x30 }
    ⟨0x12, 0x00, 0x00, 0xFD, 0x30, 0x0602⟩ 5 [(0x0010, 0x01)] = true := by decide

theorem test_X5_rraZp : Case.gives { code := [0x67, 0x10], mem := [(0x0010, 0x03)], a := 0x19, p := 0x38 }
    ⟨0x21, 0x00, 0x00, 0xFD, 0x38, 0x0602⟩ 5 [(0x0010, 0x01)] = true := by decide

theorem test_X6_dcpZp : Case.gives { code := [0xC7, 0x10], mem := [(0x0010, 0x41)], a := 0x40, p := 0x30 }
    ⟨0x40, 0x00, 0x00, 0xFD, 0x33, 0x0602⟩ 5 [(0x0010, 0x40)] = true := by decide

theorem test_X7_dcpZp : Case.gives { code := [0xC7, 0x10], mem := [(0x0010, 0x00)], a := 0x40, p := 0x31 }
    ⟨0x40, 0x00, 0x00, 0xFD, 0x30, 0x0602⟩ 5 [(0x0010, 0xFF)] = true := by decide

theorem test_X8_iscZp : Case.gives { code := [0xE7, 0x10], mem := [(0x0010, 0x0F)], a := 0x20, p := 0x31 }
    ⟨0x10, 0x00, 0x00, 0xFD, 0x31, 0x0602⟩ 5 [(0x0010, 0x10)] = true := by decide

theorem test_X9_iscZp : Case.gives { code := [0xE7, 0x10], mem := [(0x0010, 0xFF)], a := 0x00, p := 0x31 }
    ⟨0x00, 0x00, 0x00, 0xFD, 0x33, 0x0602⟩ 5 [(0x0010, 0x00)] = true := by decide

theorem test_X10_saxZp : Case.gives { code := [0x87, 0x10], a := 0xF0, x := 0x3C, p := 0x30 }
    ⟨0xF0, 0x3C, 0x00, 0xFD, 0x30, 0x0602⟩ 3 [(0x0010, 0x30)] = true := by decide

theorem test_X11_laxZp : Case.gives { code := [0xA7, 0x10], mem := [(0x0010, 0x80)], p := 0x30 }
    ⟨0x80, 0x80, 0x00, 0xFD, 0xB0, 0x0602⟩ 3 [] = true := by decide

theorem test_X12_laxIzy : Case.gives {
      code := [0xB3, 0x00], mem := [(0x0000, 0x01), (0x0001, 0x30), (0x3100, 0x00)], y := 0xFF, p := 0x30 }
    ⟨0x00, 0x00, 0xFF, 0xFD, 0x32, 0x0602⟩ 6 [] = true := by decide

theorem test_X13_ancImm0B : Case.gives { code := [0x0B, 0x80], a := 0xFF, p := 0x30 }
    ⟨0x80, 0x00, 0x00, 0xFD, 0xB1, 0x0602⟩ 2 [] = true := by decide

theorem test_X14_ancImm2B : Case.gives { code := [0x2B, 0x7F], a := 0xFF, p := 0x31 }
    ⟨0x7F, 0x00, 0x00, 0xFD, 0x30, 0x0602⟩ 2 [] = true := by decide

theorem test_X15_alrImm : Case.gives { code := [0x4B, 0x03], a := 0xFF, p := 0x30 }
    ⟨0x01, 0x00, 0x00, 0xFD, 0x31, 0x0602⟩ 2 [] = true := by decide

theorem test_X16_arrImm : Case.gives { code := [0x6B, 0xFF], a := 0xFF, p := 0x31 }
    ⟨0xFF, 0x00, 0x00, 0xFD, 0xB1, 0x0602⟩ 2 [] = true := by decide

theorem test_X17_arrImm : Case.gives { code := [0x6B, 0xFF], a := 0x80, p := 0x30 }
    ⟨0x40, 0x00, 0x00, 0xFD, 0x71, 0x0602⟩ 2 [] = true := by decide

theorem test_X20_axsImm : Case.gives { code := [0xCB, 0x05], a := 0xFF, x := 0x0F, p := 0x30 }
    ⟨0xFF, 0x0A, 0x00, 0xFD, 0x31, 0x0602⟩ 2 [] = true := by decide

theorem test_X21_axsImm : Case.gives { code := [0xCB, 0x10], a := 0x0F, x := 0xFF, p := 0x31 }
    ⟨0x0F, 0xFF, 0x00, 0xFD, 0xB0, 0x0602⟩ 2 [] = true := by decide

theorem test_X22_shyAbx : Case.gives { code := [0x9C, 0x00, 0x12], x := 0x05, y := 0xFF, p := 0x30 }
    ⟨0xAA, 0x05, 0xFF, 0xFD, 0x30, 0x0603⟩ 5 [(0x1205, 0x13)] = true := by decide

theorem test_X23_shxAby : Case.gives { code := [0x9E, 0x00, 0x12], x := 0xFF, y := 0x05, p := 0x30 }
    ⟨0xAA, 0xFF, 0x05, 0xFD, 0x30, 0x0603⟩ 5 [(0x1205, 0x13)] = true := by decide

theorem test_X24_shxAby : Case.gives { code := [0x9E, 0xFF, 0x12], x := 0x03, y := 0x02, p := 0x30 }
    ⟨0xAA, 0x03, 0x02, 0xFD, 0x30, 0x0603⟩ 6 [(0x0301, 0x03)] = true := by decide

theorem test_X25_sbcImmEB : Case.gives { code := [0xEB, 0x01], a := 0x00, p := 0x30 }
    ⟨0xFE, 0x00, 0x00, 0xFD, 0xB0, 0x0602⟩ 2 [] = true := by decide

theorem test_X26_nop1A : Case.gives { code := [0x1A], p := 0x30 }
    ⟨0xAA, 0x00, 0x00, 0xFD, 0x30, 0x0601⟩ 2 [] = true := by decide

theorem test_X27_nopImm80 : Case.gives { code := [0x80, 0x12], p := 0x30 }
    ⟨0xAA, 0x00, 0x00, 0xFD, 0x30, 0x0602⟩ 2 [] = true := by decide

theorem test_X28_nopZp04 : Case.gives { code := [0x04, 0x12], p := 0x30 }
    ⟨0xAA, 0x00, 0x00, 0xFD, 0x30, 0x0602⟩ 3 [] = true := by decide

theorem test_X29_nopZpx14 : Case.gives { code := [0x14, 0x12], p := 0x30 }
    ⟨0xAA, 0x00, 0x00, 0xFD, 0x30, 0x0602⟩ 4 [] = true := by decide

theorem test_X30_nopAbs0C : Case.gives { code := [0x0C, 0x12, 0x34], p := 0x30 }
    ⟨0xAA, 0x00, 0x00, 0xFD, 0x30, 0x0603⟩ 4 [] = true := by decide

theorem test_X31_nopAbx1C : Case.gives { code := [0x1C, 0x00, 0x12], x := 0x01, p := 0x30 }
    ⟨0xAA, 0x01, 0x00, 0xFD, 0x30, 0x0603⟩ 4 [] = true := by decide

theorem test_X32_nopAbx1C : Case.gives { code := [0x1C, 0xFF, 0x12], x := 0x01, p := 0x30 }
    ⟨0xAA, 0x01, 0x00, 0xFD, 0x30, 0x0603⟩ 5 [] = true := by decide

/-! ## The adders, on the vectors of B.3 beyond two per instruction: accumulator, operand, P before; result, P after -/

def aluGives (f : Byte → Byte → Bool → Alu) (v : Byte × Byte × Byte × Byte × Byte) : Bool :=
  let o := f v.1 v.2.1 (getFlag .C v.2.2.1)
  o.r == v.2.2.2.1 && o.flags v.2.2.1 == v.2.2.2.2

theorem test_A3_A6_adcBinary : [(0x7F, 0x00, 0x31, 0x80, 0xF0), (0x80, 0x80, 0x30, 0x00, 0x73),
    (0x00, 0x00, 0x30, 0x00, 0x32), (0xD0, 0x90, 0x30, 0x60, 0x71)].all (aluGives adcBinary) = true := by decide

theorem test_A9_A12_sbcBinary : [(0x50, 0xB0, 0x31, 0xA0, 0xF0), (0x80, 0x01, 0x31, 0x7F, 0x71),
    (0x40, 0x40, 0x31, 0x00, 0x33), (0x40, 0x40, 0x30, 0xFF, 0xB0)].all (aluGives sbcBinary) = true := by decide

theorem test_A13_A17_adcDecimal : [(0x09, 0x01, 0x38, 0x10, 0x38), (0x99, 0x01, 0x38, 0x00, 0xB9),
    (0x50, 0x50, 0x38, 0x00, 0xF9), (0x58, 0x46, 0x39, 0x05, 0xF9), (0x00, 0x00, 0x38, 0x00, 0x3A)].all
      (aluGives adcDecimal) = true := by decide

theorem test_A18_A21_sbcDecimal : [(0x00, 0x01, 0x39, 0x99, 0xB8), (0x10, 0x01, 0x39, 0x09, 0x39),
    (0x46, 0x12, 0x39, 0x34, 0x39), (0x32, 0x02, 0x38, 0x29, 0x39)].all (aluGives sbcDecimal) = true := by decide

theorem test_X18_arrDecimal : aluGives (fun a m c => arrDecimal (a &&& m) c) (0x55, 0xFF, 0x38, 0x80, 0x79) = true := by
  decide

theorem test_I11_I12_compare : compareOf 0x00 0xFF 0x35 = 0x34 ∧ compareOf 0x80 0x7F 0x34 = 0x35 := by decide

/-! ## The decimal path reached and shut off through the instruction (A13, A22, A18, A23; the absolute and zero page forms) -/

theorem test_A13_adcAbs : Case.gives { code := [0x6D, 0x00, 0x20], mem := [(0x2000, 0x01)], a := 0x09, p := 0x38 }
    ⟨0x10, 0x00, 0x00, 0xFD, 0x38, 0x0603⟩ 4 [] = true := by decide

theorem test_A22_adcAbs : Case.gives
      { code := [0x6D, 0x00, 0x20], mem := [(0x2000, 0x01)], a := 0x99, p := 0x38, binaryOnly := true }
    ⟨0x9A, 0x00, 0x00, 0xFD, 0xB8, 0x0603⟩ 4 [] = true := by decide

theorem test_A18_sbcZp : Case.gives { code := [0xE5, 0x10], mem := [(0x0010, 0x01)], a := 0x00, p := 0x39 }
    ⟨0x99, 0x00, 0x00, 0xFD, 0xB8, 0x0602⟩ 3 [] = true := by decide

theorem test_A23_sbcZp : Case.gives
      { code := [0xE5, 0x10], mem := [(0x0010, 0x01)], a := 0x00, p := 0x39, binaryOnly := true }
    ⟨0xFF, 0x00, 0x00, 0xFD, 0xB8, 0x0602⟩ 3 [] = true := by decide

theorem test_F28_bcc : Case.gives { code := [0x90, 0x02], at' := 0xFFFD, p := 0x30 }
    ⟨0xAA, 0x00, 0x00, 0xFD, 0x30, 0x0001⟩ 3 [] = true := by decide

/-! ## Interrupts, reset, the bus (B.9 to B.11) -/

/-- The memory of B.9: the vectors, NOPs at `$0600`, and RTI in both handlers. -/
def vectors : State :=
  (fillAll State.reset [(0x0600, 0xEA), (0x0601, 0xEA), (0x0602, 0xEA), (0x0900, 0x40), (0x0A00, 0x40), (0xFFFA, 0x00),
    (0xFFFB, 0x0A), (0xFFFC, 0x00), (0xFFFD, 0x06), (0xFFFE, 0x00), (0xFFFF, 0x09)]).resetEvent

theorem test_Q1_irq : stepGives { vectors with p := 0x30 }.irqReq ⟨0xAA, 0x00, 0x00, 0xFA, 0x34, 0x0900⟩ 7
    [(0x01FD, 0x06), (0x01FC, 0x00), (0x01FB, 0x20)] = true := by decide

theorem test_Q2_irq_masked : stepGives vectors.irqReq ⟨0xAA, 0x00, 0x00, 0xFD, 0x34, 0x0601⟩ 2 [] = true := by decide

theorem test_Q4_nmi : stepGives vectors.nmiReq ⟨0xAA, 0x00, 0x00, 0xFA, 0x34, 0x0A00⟩ 7
    [(0x01FD, 0x06), (0x01FC, 0x00), (0x01FB, 0x24)] = true := by decide

theorem test_Q5_nmi_first : (match step { vectors with p := 0x30 }.irqReq.nmiReq with
    | .next t => t.pendingIrq && !t.pendingNmi && t.pc == 0x0A00
    | .fault _ => false
    | .refused _ => false) = true := by decide

theorem test_Q7_irq_latched : stepGives { ({ vectors with p := 0x30 }.irqReq) with p := 0x34 }
    ⟨0xAA, 0x00, 0x00, 0xFA, 0x34, 0x0900⟩ 7 [(0x01FB, 0x24)] = true := by decide

/-- RAM only at `$0000` to `$07FF`. -/
def smallRam : State := State.reset.setDevices [⟨0x0000, 0x07FF, .ram 0x0800 []⟩]

theorem test_Q9_unmapped_vector : stepGives ({ smallRam with pc := 0x0600 }.nmiReq)
    ⟨0xAA, 0x00, 0x00, 0xFA, 0x34, 0x0000⟩ 7 [(0x01FD, 0x06), (0x01FC, 0x00), (0x01FB, 0x24)] = true := by decide

theorem test_Z1_reset : (let s : State := { fillAll State.reset [(0x0010, 0x55), (0xFFFD, 0x80)] with
      a := 0x01, x := 0x02, y := 0x03, sp := 0x10, p := 0xC3, waitCycles := 5, pendingIrq := true, pendingNmi := true
      tickCount := 99 }
    let t := s.resetEvent
    regsOf t == ⟨0xAA, 0x00, 0x00, 0xFD, 0x34, 0x8000⟩ && t.waitCycles == 0 && !t.pendingIrq && !t.pendingNmi &&
      t.peek 0x0010 == 0x55 && t.tickCount == 99 && t.devices == s.devices && t.tickers == s.tickers) = true := by decide

theorem test_Z2_construct : (State.construct smallRam.devices []).pc = 0x0000 := by decide

theorem test_Z3_new_ram : State.reset.peek 0x0000 = 0x00 ∧ State.reset.peek 0xFFFF = 0x00 := by decide

theorem test_B1_unmapped : busRead [] 0x1234 = (0x00, []) ∧ busWrite [] 0x1234 0x5A = [] := by decide

/-- RAM of `$0800` bytes over `$0000` to `$1FFF`. -/
def mirrored : List Device := [⟨0x0000, 0x1FFF, .ram 0x0800 []⟩]

theorem test_B2_mirrors : [0x0001, 0x0801, 0x1001, 0x1801].all
    (fun a => (busRead (busWrite mirrored 0x0801 0x5A) a).1 == 0x5A) = true := by decide

theorem test_B3_rom : (busRead (busWrite [⟨0xF000, 0xF0FF, .rom 0x0100 [(0, 0x81)]⟩] 0xF000 0x11) 0xF000).1 = 0x81 := by
  decide

/-- A small RAM installed before one of 64 KiB. -/
def overlapping : List Device :=
  [⟨0x8000, 0x80FF, .ram 0x0100 [(5, 0x77)]⟩, ⟨0x0000, 0xFFFF, .ram 65536 [(0x8005, 0x11)]⟩]

theorem test_B4_first_match : (busRead overlapping 0x8005).1 = 0x77 ∧ (busRead overlapping 0x8105).1 = 0x00 ∧
    busWrite overlapping 0x8005 0x99 =
      [⟨0x8000, 0x80FF, .ram 0x0100 [(5, 0x99)]⟩, ⟨0x0000, 0xFFFF, .ram 65536 [(0x8005, 0x11)]⟩] := by decide

/-- RAM below `$8000`, ROM above it, a case of code at `$0600` with P = `$30`. -/
def romState (code : List Byte) : State :=
  { State.load (State.reset.setDevices [⟨0x0000, 0x7FFF, .ram 0x8000 []⟩,
      ⟨0x8000, 0xFFFF, .rom 0x8000 [(0x0000, 0x81), (0x7FFD, 0x06)]⟩]) 0x0600 code with p := 0x30, pc := 0x0600 }

theorem test_B5_asl_rom : stepGives (romState [0x0E, 0x00, 0x80]) ⟨0xAA, 0x00, 0x00, 0xFD, 0xB1, 0x0603⟩ 6
    [(0x8000, 0x81)] = true := by decide

theorem test_B6_inc_rom : stepGives (romState [0xEE, 0x00, 0x80]) ⟨0xAA, 0x00, 0x00, 0xFD, 0xB0, 0x0603⟩ 6
    [(0x8000, 0x81)] = true := by decide

theorem test_B7_lda_unmapped : stepGives { smallRam.load 0x0600 [0xAD, 0x00, 0x90] with pc := 0x0600 }
    ⟨0x00, 0x00, 0x00, 0xFD, 0x36, 0x0603⟩ 4 [] = true := by decide

theorem test_B8_sta_unmapped : stepGives { smallRam.load 0x0600 [0x8D, 0x00, 0x90] with pc := 0x0600 }
    ⟨0xAA, 0x00, 0x00, 0xFD, 0x34, 0x0603⟩ 4 [(0x9000, 0x00)] = true := by decide

/-! ## The fatal core error, the observers, the host's words -/

theorem test_unknown_opcode : (match step { State.reset.load 0x0600 [0x02] with pc := 0x0600 } with
    | .fault (.unknownOpcode a t) => a == 0x0600 && t.pc == 0x0601 && t.tickCount == 1 && t.waitCycles == 0
    | .fault (.tickerError _ _) => false
    | .next _ => false
    | .refused _ => false) = true := by decide

theorem test_status_string : vectors.statusString = "PC:0600 A:AA X:00 Y:00 SP:FD nv-BdIzc".toList := by decide

/-- The examples of 30_encoding.md R91, and `unk_text`. -/
theorem test_disassembly : [(Instr.clc, "CLC"), (.aslA, "ASL A"), (.ldaImm 0x00, "LDA #$00"), (.ldaZp 0x10, "LDA $10"),
    (.ldaZpx 0x10, "LDA $10,X"), (.ldxZpy 0x10, "LDX $10,Y"), (.ldaIzx 0x00, "LDA ($00,X)"),
    (.ldaIzy 0x00, "LDA ($00),Y"), (.jmpAbs 0x0600, "JMP $0600"), (.ldaAbx 0x1234, "LDA $1234,X"),
    (.ldaAby 0x1234, "LDA $1234,Y"), (.jmpInd 0x10FF, "JMP ($10FF)"), (.bne 0x03, "BNE $0605"), (.unk02, "???")].all
      (fun c => instrText Params.default.unkText 0x0600 c.1 == c.2.toList) = true := by decide

theorem test_trace_line : TraceLine.text "???" ⟨0x0600, .ldaImm 0x00, 0x00, 0x00, 0x00, 0xFD, 0x36, 0x0602⟩ =
    "0600 LDA #$00 PC:0602 A:00 X:00 Y:00 SP:FD nv-BdIZc".toList := by decide

theorem test_disassemble_length : ((vectors.load 0x2000 [0xAD, 0x34, 0x12]).disassemble 0x2000).1 = "LDA $1234".toList ∧
    ((vectors.load 0x2000 [0xAD, 0x34, 0x12]).disassemble 0x2000).2.1 = 3 := by decide

theorem test_decodeTableWord : decodeTableWord 24 0x1234AD = some (.ldaAbs 0x1234) ∧
    decodeTableWord 8 0xAD = some (.ldaAbs 0x0000) ∧ decodeTableWord 16 0x42A9 = some (.ldaImm 0x42) := by decide

theorem test_withFetchWord : stepGives (State.reset.withFetchWord 16 0x42A9)
    ⟨0x42, 0x00, 0x00, 0xFD, 0x34, 0x0002⟩ 2 [] = true := by decide

/-! ## Witnesses: for each statement with hypotheses, a state and operands that meet them; for each clause, and at the
bounds of its range -/

/-- The state with this code at `$0600`, about to fetch it. -/
def about (code : List Byte) : State := Case.start { code := code }

theorem about_meets (code : List Byte) : (about code).cpuAlone ∧ (about code).waitCycles = 0 ∧
    (about code).pendingNmi = false ∧ (about code).pendingIrq = false := by
  have h (s : State) (a : Word) (bs : List Byte) : (s.load a bs).tickers = s.tickers ∧
      (s.load a bs).waitCycles = s.waitCycles ∧ (s.load a bs).pendingNmi = s.pendingNmi ∧
      (s.load a bs).pendingIrq = s.pendingIrq := by
    induction bs generalizing s a with
    | nil => exact ⟨rfl, rfl, rfl, rfl⟩
    | cons b bs ih => exact ih (s.fill a b) (a + 1)
  exact h State.reset 0x0600 code

theorem test_witness_EncodeOfDecode : decode [0xA9, 0x12, 0x77] = .ok (.ldaImm 0x12, [0x77]) ∧
    decode [0x00] = .ok (.brk, []) ∧ decode [0x6C, 0xFF, 0x10] = .ok (.jmpInd 0x10FF, []) := ⟨rfl, rfl, rfl⟩

/-- In the middle of memory, and with the code running over the top of the address space. -/
theorem test_witness_StepRunsDecoded : (let s := about [0xAD, 0x34, 0x12];
      s.readyToFetch ∧ s.cpuAlone ∧ s.plainBus = true ∧
        decode [s.peek s.pc, s.peek (s.pc + 1), s.peek (s.pc + 2)] = .ok (.ldaAbs 0x1234, [])) ∧
    (let s := Case.start { code := [0xAD, 0x34, 0x12], at' := 0xFFFE };
      s.readyToFetch ∧ s.cpuAlone ∧ s.plainBus = true ∧
        decode [s.peek s.pc, s.peek (s.pc + 1), s.peek (s.pc + 2)] = .ok (.ldaAbs 0x1234, [])) :=
  ⟨⟨⟨rfl, rfl, rfl⟩, rfl, rfl, rfl⟩, ⟨⟨rfl, rfl, rfl⟩, rfl, rfl, rfl⟩⟩

theorem test_witness_FetchAccesses : State.reset.readyToFetch ∧ State.reset.cpuAlone := ⟨⟨rfl, rfl, rfl⟩, rfl⟩

theorem test_witness_WaitTicks : (let s : State := { State.reset with waitCycles := 3 };
    s.cpuAlone ∧ 0 ≤ s.waitCycles ∧ 2 ≤ s.waitCycles ∧ 3 ≤ s.waitCycles) := ⟨rfl, by decide⟩

/-- Both latches set, only NMI, only IRQ. -/
theorem test_witness_InterruptService :
    (let s : State := { State.reset with pendingNmi := true, pendingIrq := true };
      s.cpuAlone ∧ s.waitCycles = 0 ∧ s.pendingNmi = true) ∧
    (let s := State.reset.nmiReq;
      s.cpuAlone ∧ s.waitCycles = 0 ∧ s.pendingNmi = true) ∧
    (let s : State := { State.reset with pendingIrq := true };
      s.cpuAlone ∧ s.waitCycles = 0 ∧ s.pendingNmi = false ∧ s.pendingIrq = true) :=
  ⟨⟨rfl, rfl, rfl⟩, ⟨rfl, rfl, rfl⟩, ⟨rfl, rfl, rfl, rfl⟩⟩

theorem test_witness_Requests : getFlag .I State.reset.p = true ∧ getFlag .I ({ State.reset with p := 0x30 } : State).p = false :=
  by decide

theorem test_witness_UnknownOpcode : (about [0x02]).readyToFetch ∧ (about [0x02]).cpuAlone ∧
    (busRead (about [0x02]).devices (about [0x02]).pc).1 = 0x02 ∧
    (about [0xBB]).readyToFetch ∧ (about [0xBB]).cpuAlone ∧
    (busRead (about [0xBB]).devices (about [0xBB]).pc).1 = 0xBB := ⟨⟨rfl, rfl, rfl⟩, rfl, rfl, ⟨rfl, rfl, rfl⟩, rfl, rfl⟩

theorem test_witness_FanOutOrder : (∃ t, fanOut [] State.reset = .next t) ∧
    (∃ t, fanOut [.cpu] State.reset = .next t) ∧ (∃ r, fanOut [.cpu] (about [0x02]) = .fault r) :=
  ⟨⟨_, rfl⟩, ⟨_, rfl⟩, ⟨_, rfl⟩⟩

/-- An instruction tick with the trace on, one with it off, and a wait tick with it on. -/
theorem test_witness_TraceLines :
    (let s := (about [0xEA]).setDebugOn true;
      s.cpuAlone ∧ s.plainBus = true ∧ (∃ t, step s = .next t) ∧ s.readyToFetch ∧ s.debugOn = true) ∧
    (let s := about [0xEA];
      s.cpuAlone ∧ s.plainBus = true ∧ (∃ t, step s = .next t) ∧ s.debugOn = false) ∧
    (let s : State := { (about [0xEA]).setDebugOn true with waitCycles := 1 };
      s.cpuAlone ∧ s.plainBus = true ∧ (∃ t, step s = .next t) ∧ ¬ s.readyToFetch) :=
  ⟨⟨rfl, rfl, ⟨_, rfl⟩, ⟨rfl, rfl, rfl⟩, rfl⟩, ⟨rfl, rfl, ⟨_, rfl⟩, rfl⟩, ⟨rfl, rfl, ⟨_, rfl⟩, fun h => nomatch h.1⟩⟩

/-- A tick that succeeds and one that ends in the fatal core error. -/
theorem test_witness_StepKeepsInv : (State.reset.Inv ∧ ∃ t, stateLeft (step State.reset) = some t) ∧
    ((about [0x02]).Inv ∧ ∃ t, stateLeft (step (about [0x02])) = some t) :=
  ⟨⟨⟨by decide, by decide⟩, ⟨_, rfl⟩⟩, ⟨⟨by decide, by decide⟩, ⟨_, rfl⟩⟩⟩

theorem test_witness_PlatformFixed : (∃ t, stateLeft (step State.reset) = some t) ∧
    ∃ t, stateLeft (step (about [0x02])) = some t := ⟨⟨_, rfl⟩, ⟨_, rfl⟩⟩

/-- The hypothesis of InstructionsLeave, CycleCost, TimeAffectsNoValue, FlagTable: an instruction that completes. -/
theorem test_witness_completes : (∃ t, exec (.ldaAbx 0x12FF) State.reset = .next t) ∧
    (∃ t, exec (.bne 0x80) State.reset = .next t) ∧ (∃ t, exec (.adcIzy 0xFF) State.reset = .next t) :=
  ⟨⟨_, rfl⟩, ⟨_, rfl⟩, ⟨_, rfl⟩⟩

/-- For each register, an instruction that completes and is not in its list; for each row of the flag table, a flag that
is not in it. -/
theorem test_witness_RegisterTable :
    (∃ t, exec .nop State.reset = .next t) ∧ (Instr.nop.row.mnemonic ∉ ["LDA", "PLA", "TXA", "TYA", "LAX", "ADC", "SBC",
      "AND", "ORA", "EOR", "ASL A", "LSR A", "ROL A", "ROR A", "SLO", "RLA", "SRE", "RRA", "ISC", "ANC", "ALR", "ARR"]) ∧
    (Instr.nop.row.mnemonic ∉ ["LDX", "TAX", "TSX", "INX", "DEX", "LAX", "AXS"]) ∧
    (Instr.nop.row.mnemonic ∉ ["LDY", "TAY", "INY", "DEY"]) ∧
    (Instr.nop.row.mnemonic ∉ ["PHA", "PHP", "PLA", "PLP", "JSR", "RTS", "RTI", "BRK", "TXS"]) ∧
    (Instr.nop.row.mnemonic ∉ ["JMP", "JSR", "RTS", "RTI", "BRK", "BPL", "BMI", "BVC", "BVS", "BCC", "BCS", "BNE",
      "BEQ"]) := ⟨⟨_, rfl⟩, by decide⟩

theorem test_witness_FlagTable : (∃ t, exec (.ldaImm 0x80) State.reset = .next t) ∧
    (.C : Flag) ∉ ([.N, .Z] : List Flag) ∧ (.D : Flag) ∉ ([.N, .V, .Z, .C] : List Flag) ∧
    (.V : Flag) ∉ ([.N, .Z, .C] : List Flag) ∧ (.C : Flag) ∉ ([.N, .V, .Z] : List Flag) ∧
    (.N : Flag) ∉ ([.C] : List Flag) ∧ (.D : Flag) ∉ ([.I] : List Flag) ∧ (.I : Flag) ∉ ([.D] : List Flag) ∧
    (.Z : Flag) ∉ ([.V] : List Flag) ∧ (.Z : Flag) ∉ ([] : List Flag) := ⟨⟨_, rfl⟩, by decide⟩

theorem test_witness_ResetEvent : State.reset.params.resetClearsLatches = true ∧
    ({ State.reset with params := { Params.default with resetClearsLatches := false } } : State).params.resetClearsLatches
      = false := ⟨rfl, rfl⟩

/-- First and last address of a window, behind a window that does not hold them; and an address in no window. -/
theorem test_witness_FirstMatchDecoder :
    (let d : Device := ⟨0x8000, 0x80FF, .ram 0x0100 []⟩;
      (∀ e ∈ ([⟨0x0000, 0x7FFF, .ram 0x0800 []⟩] : List Device),
        ¬ (e.first.toNat ≤ (0x8000 : Word).toNat ∧ (0x8000 : Word).toNat ≤ e.last.toNat)) ∧
      d.first.toNat ≤ (0x8000 : Word).toNat ∧ (0x8000 : Word).toNat ≤ d.last.toNat ∧
      d.first.toNat ≤ (0x80FF : Word).toNat ∧ (0x80FF : Word).toNat ≤ d.last.toNat) ∧
    (∀ e ∈ ([⟨0x0000, 0x7FFF, .ram 0x0800 []⟩] : List Device),
      ¬ (e.first.toNat ≤ (0xFFFF : Word).toNat ∧ (0xFFFF : Word).toNat ≤ e.last.toNat)) := by decide

theorem test_witness_RamAndRom : Memory.wf [] = true ∧ Memory.wf [(0, 0x01), (0xFFFF, 0xFF)] = true ∧
    (0x0801 : Nat) % 0x0800 = 1 % 0x0800 ∧ (2 : Nat) % 0x0800 ≠ 1 % 0x0800 := by decide

theorem test_witness_CanonicalForm : (let m : Memory := Memory.write [(3, 0x01)] 5 0x02;
    let m' : Memory := Memory.write [(5, 0x02)] 3 0x01;
    Memory.wf m = true ∧ Memory.wf m' = true ∧ ∀ k, Memory.read m k = Memory.read m' k) :=
  ⟨by decide, by decide, fun _ => rfl⟩

/-- A mirror of the address written, and an address outside the byte; a ROM's address; an unmapped one. -/
theorem test_witness_ReadAfterWrite : (let s := State.reset.setDevices mirrored;
    (s.Inv ∧ backed s.devices 0x1801 = true ∧ cellOf s.devices 0x0801 = cellOf s.devices 0x1801) ∧
    (settled s.devices 0x1802 = true ∧ cellOf s.devices 0x0801 ≠ cellOf s.devices 0x1802) ∧
    (settled s.devices 0xFFFF = true ∧ cellOf s.devices 0xFFFF = none)) := by
  refine ⟨⟨⟨?_, ?_⟩, ?_, ?_⟩, ?_, ?_⟩ <;> decide

theorem test_witness_PushPop : State.reset.Inv ∧ backed State.reset.devices (stackAddr State.reset.sp) = true ∧
    backed State.reset.devices (stackAddr 0x00) = true ∧ backed State.reset.devices (stackAddr 0xFF) = true :=
  ⟨⟨by decide, by decide⟩, by decide⟩

theorem test_witness_FlagHelpers : (.C : Flag) ≠ .N ∧ (.C : Flag) ≠ .Z ∧ (.V : Flag) ≠ .N ∧ (.V : Flag) ≠ .Z ∧
    (.V : Flag) ≠ .C := by decide

/-- The bounds of the valid digits, and a byte inside them. -/
theorem test_witness_DecimalAdd_DecimalSubtract : [(0x00 : Byte), 0x09, 0x90, 0x99, 0x46].all
    (fun a => decide (a.toNat / 16 ≤ 9 ∧ a.toNat % 16 ≤ 9)) = true := by decide

theorem test_witness_IncrementDecrement : State.reset.params.incdecNz = .computed ∧
    ({ State.reset with params := { Params.default with incdecNz := .readback } } : State).params.incdecNz = .readback :=
  ⟨rfl, rfl⟩

/-- The reset stack, and one where the two bytes wrap inside the page. -/
theorem test_witness_CallThenReturn : (let s := State.reset;
      s.Inv ∧ backed s.devices (stackAddr s.sp) = true ∧ backed s.devices (stackAddr (s.sp - 1)) = true ∧
      s.apart (stackAddr (s.sp - 1)) (stackAddr s.sp) ∧
      ∃ t u, exec (.jsr 0x1234) s = .next t ∧ exec .rts t = .next u) ∧
    (let s : State := { State.reset with sp := 0x00 };
      s.Inv ∧ backed s.devices (stackAddr s.sp) = true ∧ backed s.devices (stackAddr (s.sp - 1)) = true ∧
      s.apart (stackAddr (s.sp - 1)) (stackAddr s.sp) ∧
      ∃ t u, exec (.jsr 0x1234) s = .next t ∧ exec .rts t = .next u) :=
  ⟨⟨⟨by decide, by decide⟩, by decide, by decide, .inr (by decide), _, _, rfl, rfl⟩,
    ⟨⟨by decide, by decide⟩, by decide, by decide, .inr (by decide), _, _, rfl, rfl⟩⟩

theorem test_witness_NonStoringFrame : (∃ t, exec (.ldaAbs 0x1234) State.reset = .next t) ∧
    (Instr.ldaAbs 0x1234).row.mnemonic ∉ ["STA", "STX", "STY", "SAX", "SHX", "SHY", "ASL", "LSR", "ROL", "ROR", "INC",
      "DEC", "SLO", "RLA", "SRE", "RRA", "DCP", "ISC", "PHA", "PHP", "JSR", "BRK"] ∧
    settled State.reset.devices 0x1234 = true := ⟨⟨_, rfl⟩, by decide⟩

/-- The addresses next to the byte stored. -/
theorem test_witness_StoringFrame : (∃ t, exec (.staAbs 0x1234) State.reset = .next t) ∧
    (Instr.staAbs 0x1234).row.mnemonic ∈ ["STA", "STX", "STY", "SAX", "ASL", "LSR", "ROL", "ROR", "INC", "DEC", "SLO",
      "RLA", "SRE", "RRA", "DCP", "ISC"] ∧
    settled State.reset.devices 0x1233 = true ∧ State.reset.apart (addressed (.staAbs 0x1234) State.reset).1 0x1233 ∧
    settled State.reset.devices 0x1235 = true ∧ State.reset.apart (addressed (.staAbs 0x1234) State.reset).1 0x1235 :=
  ⟨⟨_, rfl⟩, by decide, by decide, .inr (by decide), by decide, .inr (by decide)⟩

theorem test_witness_OtherStoringFrame : (let s := State.reset;
    let a : Word := 0x01FA;
    settled s.devices a = true ∧
    (∃ t, exec (.shyAbx 0x12FF) s = .next t) ∧
    s.apart (highAddress s.params.shxyCross s.y s.x (addressed (.shyAbx 0x12FF) s).1) a ∧
    (∃ t, exec (.shxAby 0x12FF) s = .next t) ∧
    s.apart (highAddress s.params.shxyCross s.x s.y (addressed (.shxAby 0x12FF) s).1) a ∧
    (∃ t, exec .pha s = .next t) ∧ (∃ t, exec .php s = .next t) ∧ (∃ t, exec (.jsr 0x1234) s = .next t) ∧
    (∃ t, exec .brk s = .next t) ∧ s.apart (stackAddr s.sp) a ∧ s.apart (stackAddr (s.sp - 1)) a ∧
    s.apart (stackAddr (s.sp - 2)) a) :=
  ⟨by decide, ⟨_, rfl⟩, .inr (by decide), ⟨_, rfl⟩, .inr (by decide), ⟨_, rfl⟩, ⟨_, rfl⟩, ⟨_, rfl⟩, ⟨_, rfl⟩,
    .inr (by decide), .inr (by decide), .inr (by decide)⟩

/-! The instruction lists of the statements: the last of each, at the bound of its operand. -/

theorem test_witness_EveryByteDecodes_lists : (Instr.nopFA) ∈ ([.nop1A, .nop3A, .nop5A, .nop7A, .nopDA, .nopFA] :
    List Instr) ∧ (Instr.nopImmE2 0xFF) ∈ ([.nopImm80 0xFF, .nopImm82 0xFF, .nopImm89 0xFF, .nopImmC2 0xFF,
    .nopImmE2 0xFF] : List Instr) ∧ (Instr.nopZp64 0xFF) ∈ ([.nopZp04 0xFF, .nopZp44 0xFF, .nopZp64 0xFF] : List
    Instr) ∧ (Instr.nopZpxF4 0xFF) ∈ ([.nopZpx14 0xFF, .nopZpx34 0xFF, .nopZpx54 0xFF, .nopZpx74 0xFF, .nopZpxD4
    0xFF, .nopZpxF4 0xFF] : List Instr) ∧ (Instr.nopAbxFC 0x12FF) ∈ ([.nopAbx1C 0x12FF, .nopAbx3C 0x12FF, .nopAbx5C
    0x12FF, .nopAbx7C 0x12FF, .nopAbxDC 0x12FF, .nopAbxFC 0x12FF] : List Instr) := by decide

theorem test_witness_UnknownOpcode_lists : (Instr.unkF2) ∈ ([.unk02, .unk12, .unk22, .unk32, .unk42, .unk52, .unk62,
    .unk72, .unk8B, .unk92, .unk93, .unk9B, .unk9F, .unkAB, .unkB2, .unkBB, .unkD2, .unkF2] : List Instr) := by
    decide

theorem test_witness_Loads_lists : (Instr.ldaAbx 0x12FF) ∈ ([.ldaIzx 0xFF, .ldaZp 0xFF, .ldaImm 0xFF, .ldaAbs
    0x12FF, .ldaIzy 0xFF, .ldaZpx 0xFF, .ldaAby 0x12FF, .ldaAbx 0x12FF] : List Instr) ∧ (Instr.ldxAby 0x12FF) ∈
    ([.ldxImm 0xFF, .ldxZp 0xFF, .ldxAbs 0x12FF, .ldxZpy 0xFF, .ldxAby 0x12FF] : List Instr) ∧ (Instr.ldyAbx 0x12FF)
    ∈ ([.ldyImm 0xFF, .ldyZp 0xFF, .ldyAbs 0x12FF, .ldyZpx 0xFF, .ldyAbx 0x12FF] : List Instr) ∧ (Instr.laxAby
    0x12FF) ∈ ([.laxIzx 0xFF, .laxZp 0xFF, .laxAbs 0x12FF, .laxIzy 0xFF, .laxZpy 0xFF, .laxAby 0x12FF] : List Instr)
    := by decide

theorem test_witness_Stores_lists : (Instr.staAbx 0x12FF) ∈ ([.staIzx 0xFF, .staZp 0xFF, .staAbs 0x12FF, .staIzy
    0xFF, .staZpx 0xFF, .staAby 0x12FF, .staAbx 0x12FF] : List Instr) ∧ (Instr.stxZpy 0xFF) ∈ ([.stxZp 0xFF, .stxAbs
    0x12FF, .stxZpy 0xFF] : List Instr) ∧ (Instr.styZpx 0xFF) ∈ ([.styZp 0xFF, .styAbs 0x12FF, .styZpx 0xFF] : List
    Instr) ∧ (Instr.saxZpy 0xFF) ∈ ([.saxIzx 0xFF, .saxZp 0xFF, .saxAbs 0x12FF, .saxZpy 0xFF] : List Instr) := by
    decide

theorem test_witness_AddSubtract_lists : (Instr.adcAbx 0x12FF) ∈ ([.adcIzx 0xFF, .adcZp 0xFF, .adcImm 0xFF, .adcAbs
    0x12FF, .adcIzy 0xFF, .adcZpx 0xFF, .adcAby 0x12FF, .adcAbx 0x12FF] : List Instr) ∧ (Instr.sbcAbx 0x12FF) ∈
    ([.sbcIzx 0xFF, .sbcZp 0xFF, .sbcImm 0xFF, .sbcImmEB 0xFF, .sbcAbs 0x12FF, .sbcIzy 0xFF, .sbcZpx 0xFF, .sbcAby
    0x12FF, .sbcAbx 0x12FF] : List Instr) := by decide

theorem test_witness_Logic_lists : (Instr.andAbx 0x12FF) ∈ ([.andIzx 0xFF, .andZp 0xFF, .andImm 0xFF, .andAbs
    0x12FF, .andIzy 0xFF, .andZpx 0xFF, .andAby 0x12FF, .andAbx 0x12FF] : List Instr) ∧ (Instr.oraAbx 0x12FF) ∈
    ([.oraIzx 0xFF, .oraZp 0xFF, .oraImm 0xFF, .oraAbs 0x12FF, .oraIzy 0xFF, .oraZpx 0xFF, .oraAby 0x12FF, .oraAbx
    0x12FF] : List Instr) ∧ (Instr.eorAbx 0x12FF) ∈ ([.eorIzx 0xFF, .eorZp 0xFF, .eorImm 0xFF, .eorAbs 0x12FF,
    .eorIzy 0xFF, .eorZpx 0xFF, .eorAby 0x12FF, .eorAbx 0x12FF] : List Instr) ∧ (Instr.bitAbs 0x12FF) ∈ ([.bitZp
    0xFF, .bitAbs 0x12FF] : List Instr) := by decide

theorem test_witness_MemoryShifts_lists : (Instr.aslAbx 0x12FF) ∈ ([.aslZp 0xFF, .aslAbs 0x12FF, .aslZpx 0xFF,
    .aslAbx 0x12FF] : List Instr) ∧ (Instr.lsrAbx 0x12FF) ∈ ([.lsrZp 0xFF, .lsrAbs 0x12FF, .lsrZpx 0xFF, .lsrAbx
    0x12FF] : List Instr) ∧ (Instr.rolAbx 0x12FF) ∈ ([.rolZp 0xFF, .rolAbs 0x12FF, .rolZpx 0xFF, .rolAbx 0x12FF] :
    List Instr) ∧ (Instr.rorAbx 0x12FF) ∈ ([.rorZp 0xFF, .rorAbs 0x12FF, .rorZpx 0xFF, .rorAbx 0x12FF] : List Instr)
    := by decide

theorem test_witness_IncrementDecrement_lists : (Instr.incAbx 0x12FF) ∈ ([.incZp 0xFF, .incAbs 0x12FF, .incZpx 0xFF,
    .incAbx 0x12FF] : List Instr) ∧ (Instr.decAbx 0x12FF) ∈ ([.decZp 0xFF, .decAbs 0x12FF, .decZpx 0xFF, .decAbx
    0x12FF] : List Instr) := by decide

theorem test_witness_Compares_lists : (Instr.cmpAbx 0x12FF) ∈ ([.cmpIzx 0xFF, .cmpZp 0xFF, .cmpImm 0xFF, .cmpAbs
    0x12FF, .cmpIzy 0xFF, .cmpZpx 0xFF, .cmpAby 0x12FF, .cmpAbx 0x12FF] : List Instr) ∧ (Instr.cpxAbs 0x12FF) ∈
    ([.cpxImm 0xFF, .cpxZp 0xFF, .cpxAbs 0x12FF] : List Instr) ∧ (Instr.cpyAbs 0x12FF) ∈ ([.cpyImm 0xFF, .cpyZp
    0xFF, .cpyAbs 0x12FF] : List Instr) := by decide

theorem test_witness_NoOperation_lists : (Instr.nopAbxFC 0x12FF) ∈ ([.nopZp04 0xFF, .nopAbs0C 0x12FF, .nopZpx14
    0xFF, .nop1A, .nopAbx1C 0x12FF, .nopZpx34 0xFF, .nop3A, .nopAbx3C 0x12FF, .nopZp44 0xFF, .nopZpx54 0xFF, .nop5A,
    .nopAbx5C 0x12FF, .nopZp64 0xFF, .nopZpx74 0xFF, .nop7A, .nopAbx7C 0x12FF, .nopImm80 0xFF, .nopImm82 0xFF,
    .nopImm89 0xFF, .nopImmC2 0xFF, .nopZpxD4 0xFF, .nopDA, .nopAbxDC 0x12FF, .nopImmE2 0xFF, .nop, .nopZpxF4 0xFF,
    .nopFA, .nopAbxFC 0x12FF] : List Instr) := by decide

theorem test_witness_MemoryCompositions_lists : (Instr.sloAbx 0x12FF) ∈ ([.sloIzx 0xFF, .sloZp 0xFF, .sloAbs 0x12FF,
    .sloIzy 0xFF, .sloZpx 0xFF, .sloAby 0x12FF, .sloAbx 0x12FF] : List Instr) ∧ (Instr.rlaAbx 0x12FF) ∈ ([.rlaIzx
    0xFF, .rlaZp 0xFF, .rlaAbs 0x12FF, .rlaIzy 0xFF, .rlaZpx 0xFF, .rlaAby 0x12FF, .rlaAbx 0x12FF] : List Instr) ∧
    (Instr.sreAbx 0x12FF) ∈ ([.sreIzx 0xFF, .sreZp 0xFF, .sreAbs 0x12FF, .sreIzy 0xFF, .sreZpx 0xFF, .sreAby 0x12FF,
    .sreAbx 0x12FF] : List Instr) ∧ (Instr.rraAbx 0x12FF) ∈ ([.rraIzx 0xFF, .rraZp 0xFF, .rraAbs 0x12FF, .rraIzy
    0xFF, .rraZpx 0xFF, .rraAby 0x12FF, .rraAbx 0x12FF] : List Instr) ∧ (Instr.dcpAbx 0x12FF) ∈ ([.dcpIzx 0xFF,
    .dcpZp 0xFF, .dcpAbs 0x12FF, .dcpIzy 0xFF, .dcpZpx 0xFF, .dcpAby 0x12FF, .dcpAbx 0x12FF] : List Instr) ∧
    (Instr.iscAbx 0x12FF) ∈ ([.iscIzx 0xFF, .iscZp 0xFF, .iscAbs 0x12FF, .iscIzy 0xFF, .iscZpx 0xFF, .iscAby 0x12FF,
    .iscAbx 0x12FF] : List Instr) := by decide

theorem test_witness_ImmediateCompositions_lists : (Instr.ancImm2B 0xFF) ∈ ([.ancImm0B 0xFF, .ancImm2B 0xFF] : List
    Instr) := by decide

end Sys2Proof.Tests
end

section
/-! The frame of the flags and of the registers (10_state.md R20 to R23, R33), and of the rest of the state (R44). What
each behaviour may write is one row of `footprints`: the rows are shown sound once, by composing the frames of the
operations a behaviour is made of, and the two tables of the spec are then read off the rows. -/

namespace Sys2Proof.Machine

/-- A part of the register file: a register other than P, or a flag of P. -/
inductive Part where
  | a | x | y | sp | pc
  | flag (f : Flag)
  deriving DecidableEq

/-- The part is in `t` what it is in `s`. -/
def Part.same (s t : State) : Part → Prop
  | .a => t.a = s.a
  | .x => t.x = s.x
  | .y => t.y = s.y
  | .sp => t.sp = s.sp
  | .pc => t.pc = s.pc
  | .flag f => getFlag f t.p = getFlag f s.p

/-- `t` has every part of `s` but those in `ws`. -/
def Writes (ws : List Part) (s t : State) : Prop := ∀ p, p ∉ ws → p.same s t

variable {ws : List Part} {s t u : State}

theorem Writes.trans (h : Writes ws s t) (h' : Writes ws t u) : Writes ws s u := by
  intro p hp
  cases p <;> exact (h' _ hp).trans (h _ hp)

theorem Writes.mono {vs : List Part} (h : Writes vs s t) (hs : vs ⊆ ws) : Writes ws s t :=
  fun p hp => h p fun hv => hp (hs hv)

theorem Writes.refl (ws : List Part) (s : State) : Writes ws s s := by
  intro p _
  cases p <;> rfl

/-! ## The operations over registers and memory -/

theorem setA_writes (s : State) (v : Byte) (h : .a ∈ ws := by decide) : Writes ws s (s.setA v) := by
  intro p hp
  cases p with
  | a => exact absurd h hp
  | _ => rfl

theorem setX_writes (s : State) (v : Byte) (h : .x ∈ ws := by decide) : Writes ws s (s.setX v) := by
  intro p hp
  cases p with
  | x => exact absurd h hp
  | _ => rfl

theorem setY_writes (s : State) (v : Byte) (h : .y ∈ ws := by decide) : Writes ws s (s.setY v) := by
  intro p hp
  cases p with
  | y => exact absurd h hp
  | _ => rfl

theorem setSp_writes (s : State) (v : Byte) (h : .sp ∈ ws := by decide) : Writes ws s (s.setSp v) := by
  intro p hp
  cases p with
  | sp => exact absurd h hp
  | _ => rfl

theorem setPc_writes (s : State) (v : Word) (h : .pc ∈ ws := by decide) : Writes ws s (s.setPc v) := by
  intro p hp
  cases p with
  | pc => exact absurd h hp
  | _ => rfl

/-- A write of P writes the flags it changes. -/
theorem setP_writes {v : Byte} (h : ∀ f, .flag f ∉ ws → getFlag f v = getFlag f s.p) : Writes ws s (s.setP v) := by
  intro p hp
  cases p with
  | flag f => exact h f hp
  | _ => rfl

theorem setFlag_writes (s : State) (f : Flag) (b : Bool) (h : .flag f ∈ ws := by decide) :
    Writes ws s (s.setFlag f b) := by
  refine setP_writes fun g hg => ?_
  have hne : g ≠ f := fun e => hg (e ▸ h)
  rw [getFlag_putFlag, if_neg hne]

theorem addWait_writes (ws : List Part) (s : State) (n : Nat) : Writes ws s (s.addWait n) := by
  intro p _
  cases p <;> rfl

theorem memRead_writes (ws : List Part) (s : State) (a : Word) : Writes ws s (s.memRead a).2 := by
  intro p _
  cases p <;> rfl

theorem memWrite_writes (ws : List Part) (s : State) (a : Word) (v : Byte) : Writes ws s (s.memWrite a v) := by
  intro p _
  cases p <;> rfl

/-- An instruction's own resolution writes no part (40_step_and_addressing.md R103). -/
theorem addressed_writes (ws : List Part) (i : Instr) (s : State) : Writes ws s (addressed i s).2 := by
  intro p _
  cases p <;> simp [Part.same]

/-! ## The shared steps of the behaviours -/

/-- N and Z. -/
def Part.nz : List Part := [.flag .N, .flag .Z]

/-- N, Z and C. -/
def Part.nzc : List Part := [.flag .N, .flag .Z, .flag .C]

/-- N, V, Z and C. -/
def Part.nvzc : List Part := [.flag .N, .flag .V, .flag .Z, .flag .C]

/-- All eight flags. -/
def Part.allFlags : List Part :=
  [.flag .N, .flag .V, .flag .U, .flag .B, .flag .D, .flag .I, .flag .Z, .flag .C]

/-- `set_nz` is a write of N and a write of Z (40_step_and_addressing.md R121). -/
theorem setNZ_writes (s : State) (v : Byte) (hn : .flag .N ∈ ws := by decide) (hz : .flag .Z ∈ ws := by decide) :
    Writes ws s (s.setNZ v) :=
  (setFlag_writes s .N _ hn).trans (setFlag_writes _ .Z _ hz)

/-- `compare` is a `set_nz` and a write of C (40_step_and_addressing.md R122). -/
theorem setCompare_writes (s : State) (a b : Byte) : Writes Part.nzc s (s.setP (compareOf a b s.p)) :=
  (setNZ_writes s (a - b)).trans (setFlag_writes _ .C _)

/-- The flags of ADC, SBC and ARR (10_state.md R33). -/
theorem setAlu_writes (s : State) (o : Alu) : Writes (.a :: Part.nvzc) s ((s.setA o.r).setP (o.flags s.p)) :=
  ((((setA_writes s o.r).trans (setFlag_writes _ .C o.c)).trans (setFlag_writes _ .Z o.z)).trans
    (setFlag_writes _ .V o.v)).trans (setFlag_writes _ .N o.n)

/-- A result to A, with N and Z of it. -/
theorem resultA_writes (s : State) (v : Byte) : Writes (.a :: Part.nz) s ((s.setA v).setNZ v) :=
  (setA_writes s v).trans (setNZ_writes _ v)

/-- A result to X, with N and Z of it. -/
theorem resultX_writes (s : State) (v : Byte) : Writes (.x :: Part.nz) s ((s.setX v).setNZ v) :=
  (setX_writes s v).trans (setNZ_writes _ v)

/-- A result to Y, with N and Z of it. -/
theorem resultY_writes (s : State) (v : Byte) : Writes (.y :: Part.nz) s ((s.setY v).setNZ v) :=
  (setY_writes s v).trans (setNZ_writes _ v)

theorem push8_writes (s : State) (v : Byte) (h : .sp ∈ ws := by decide) : Writes ws s (s.push8 v) :=
  (memWrite_writes ws s _ v).trans (setSp_writes _ _ h)

theorem push16_writes (s : State) (w : Word) (h : .sp ∈ ws := by decide) : Writes ws s (s.push16 w) :=
  (push8_writes s _ h).trans (push8_writes _ _ h)

theorem pop8_writes (s : State) (h : .sp ∈ ws := by decide) : Writes ws s s.pop8.2 :=
  (setSp_writes s _ h).trans (memRead_writes ws _ _)

theorem pop16_writes (s : State) (h : .sp ∈ ws := by decide) : Writes ws s s.pop16.2 :=
  (pop8_writes s h).trans (pop8_writes _ h)

/-- A pulled status may be any status byte. -/
theorem setAllFlags_writes (s : State) (v : Byte) (h : Part.allFlags ⊆ ws := by decide) : Writes ws s (s.setP v) := by
  refine setP_writes fun f hf => absurd (h ?_) hf
  cases f <;> decide

theorem shiftA_writes (f : Shift) (s : State) : Writes (.a :: Part.nzc) s (shiftA f s) :=
  ((setFlag_writes s .C _).trans (setA_writes _ _)).trans (setNZ_writes _ _)

theorem shiftMem_writes (f : Shift) (ea : Word) (s : State) : Writes Part.nzc s (shiftMem f ea s) :=
  ((((memRead_writes _ s ea).trans (setFlag_writes _ .C _)).trans (memWrite_writes _ _ ea _)).trans
    (memRead_writes _ _ ea)).trans (setNZ_writes _ _)

theorem stepMem_writes (f : Byte → Byte) (ea : Word) (s : State) : Writes Part.nz s (stepMem f ea s) := by
  have h := (memRead_writes Part.nz s ea).trans (memWrite_writes _ _ ea (f (s.memRead ea).1))
  simp only [stepMem]
  split
  · exact h.trans (setNZ_writes _ _)
  · exact (h.trans (memRead_writes _ _ ea)).trans (setNZ_writes _ _)

theorem compareAt_writes (r : Byte) (ea : Word) (s : State) : Writes Part.nzc s (compareAt r ea s) :=
  (memRead_writes _ s ea).trans (setCompare_writes _ r _)

theorem branchIf_writes (c : Bool) (ea : Word) (s : State) : Writes [.pc] s (branchIf c ea s) := by
  simp only [branchIf]
  split
  · split
    · exact (addWait_writes _ s 1).trans (setPc_writes _ ea)
    · exact setPc_writes s ea
  · exact Writes.refl _ s

/-! ## The behaviours -/

theorem ldaOp_writes (ea : Word) (s : State) : Writes (.a :: Part.nz) s (ldaOp ea s) :=
  (memRead_writes _ s ea).trans (resultA_writes _ _)
theorem ldxOp_writes (ea : Word) (s : State) : Writes (.x :: Part.nz) s (ldxOp ea s) :=
  (memRead_writes _ s ea).trans (resultX_writes _ _)
theorem ldyOp_writes (ea : Word) (s : State) : Writes (.y :: Part.nz) s (ldyOp ea s) :=
  (memRead_writes _ s ea).trans (resultY_writes _ _)
theorem andOp_writes (ea : Word) (s : State) : Writes (.a :: Part.nz) s (andOp ea s) :=
  (memRead_writes _ s ea).trans (resultA_writes _ _)
theorem oraOp_writes (ea : Word) (s : State) : Writes (.a :: Part.nz) s (oraOp ea s) :=
  (memRead_writes _ s ea).trans (resultA_writes _ _)
theorem eorOp_writes (ea : Word) (s : State) : Writes (.a :: Part.nz) s (eorOp ea s) :=
  (memRead_writes _ s ea).trans (resultA_writes _ _)
theorem adcOp_writes (ea : Word) (s : State) : Writes (.a :: Part.nvzc) s (adcOp ea s) :=
  (memRead_writes _ s ea).trans (setAlu_writes _ _)
theorem sbcOp_writes (ea : Word) (s : State) : Writes (.a :: Part.nvzc) s (sbcOp ea s) :=
  (memRead_writes _ s ea).trans (setAlu_writes _ _)
theorem bitOp_writes (ea : Word) (s : State) : Writes [.flag .N, .flag .V, .flag .Z] s (bitOp ea s) :=
  (((memRead_writes _ s ea).trans (setFlag_writes _ .Z _)).trans (setFlag_writes _ .N _)).trans
    (setFlag_writes _ .V _)
theorem jsrOp_writes (ea : Word) (s : State) : Writes [.sp, .pc] s (jsrOp ea s) :=
  (push16_writes s _).trans (setPc_writes _ ea)
theorem rtsOp_writes (ea : Word) (s : State) : Writes [.sp, .pc] s (rtsOp ea s) :=
  (pop16_writes s).trans (setPc_writes _ _)
theorem rtiOp_writes (ea : Word) (s : State) : Writes (.sp :: .pc :: Part.allFlags) s (rtiOp ea s) :=
  (((pop8_writes s).trans (setAllFlags_writes _ _)).trans (pop16_writes _)).trans (setPc_writes _ _)
theorem brkOp_writes (ea : Word) (s : State) : Writes [.sp, .pc, .flag .I] s (brkOp ea s) :=
  (((((push16_writes s _).trans (push8_writes _ _)).trans (setFlag_writes _ .I true)).trans
    (memRead_writes _ _ irqVector)).trans (memRead_writes _ _ (irqVector + 1))).trans (setPc_writes _ _)
theorem plaOp_writes (ea : Word) (s : State) : Writes (.sp :: .a :: Part.nz) s (plaOp ea s) :=
  (pop8_writes s).trans ((resultA_writes _ _).mono (by decide))
theorem plpOp_writes (ea : Word) (s : State) : Writes (.sp :: Part.allFlags) s (plpOp ea s) :=
  (pop8_writes s).trans (setAllFlags_writes _ _)
theorem sloOp_writes (ea : Word) (s : State) : Writes (.a :: Part.nzc) s (sloOp ea s) :=
  ((shiftMem_writes aslOf ea s).mono (by decide)).trans ((oraOp_writes ea _).mono (by decide))
theorem rlaOp_writes (ea : Word) (s : State) : Writes (.a :: Part.nzc) s (rlaOp ea s) :=
  ((shiftMem_writes rolOf ea s).mono (by decide)).trans ((andOp_writes ea _).mono (by decide))
theorem sreOp_writes (ea : Word) (s : State) : Writes (.a :: Part.nzc) s (sreOp ea s) :=
  ((shiftMem_writes lsrOf ea s).mono (by decide)).trans ((eorOp_writes ea _).mono (by decide))
theorem rraOp_writes (ea : Word) (s : State) : Writes (.a :: Part.nvzc) s (rraOp ea s) :=
  ((shiftMem_writes rorOf ea s).mono (by decide)).trans (adcOp_writes ea _)
theorem dcpOp_writes (ea : Word) (s : State) : Writes Part.nzc s (dcpOp ea s) :=
  ((stepMem_writes (· - 1) ea s).mono (by decide)).trans (compareAt_writes _ ea _)
theorem iscOp_writes (ea : Word) (s : State) : Writes (.a :: Part.nvzc) s (iscOp ea s) :=
  ((stepMem_writes (· + 1) ea s).mono (by decide)).trans (sbcOp_writes ea _)
theorem laxOp_writes (ea : Word) (s : State) : Writes (.a :: .x :: Part.nz) s (laxOp ea s) :=
  ((ldaOp_writes ea s).mono (by decide)).trans ((ldxOp_writes ea _).mono (by decide))
theorem ancOp_writes (ea : Word) (s : State) : Writes (.a :: Part.nzc) s (ancOp ea s) :=
  ((andOp_writes ea s).mono (by decide)).trans (setFlag_writes _ .C _)
theorem alrOp_writes (ea : Word) (s : State) : Writes (.a :: Part.nzc) s (alrOp ea s) :=
  ((andOp_writes ea s).mono (by decide)).trans (shiftA_writes lsrOf _)
theorem arrOp_writes (ea : Word) (s : State) : Writes (.a :: Part.nvzc) s (arrOp ea s) :=
  (memRead_writes _ s ea).trans (setAlu_writes _ _)
theorem axsOp_writes (ea : Word) (s : State) : Writes (.x :: Part.nzc) s (axsOp ea s) :=
  ((memRead_writes _ s ea).trans (setX_writes _ _)).trans ((setCompare_writes _ _ _).mono (by decide))

/-! ## The table of what each behaviour writes -/

/-- By mnemonic (30_encoding.md R84 to R87), the behaviour and the parts it may write. -/
def footprints : List (String × (Word → State → State) × List Part) :=
  [("LDA", ldaOp, .a :: Part.nz), ("LDX", ldxOp, .x :: Part.nz), ("LDY", ldyOp, .y :: Part.nz),
    ("STA", staOp, []), ("STX", stxOp, []), ("STY", styOp, []),
    ("TAX", taxOp, .x :: Part.nz), ("TXA", txaOp, .a :: Part.nz), ("TAY", tayOp, .y :: Part.nz),
    ("TYA", tyaOp, .a :: Part.nz), ("TSX", tsxOp, .x :: Part.nz), ("TXS", txsOp, [.sp]),
    ("ADC", adcOp, .a :: Part.nvzc), ("SBC", sbcOp, .a :: Part.nvzc),
    ("AND", andOp, .a :: Part.nz), ("ORA", oraOp, .a :: Part.nz), ("EOR", eorOp, .a :: Part.nz),
    ("BIT", bitOp, [.flag .N, .flag .V, .flag .Z]),
    ("ASL A", aslAOp, .a :: Part.nzc), ("LSR A", lsrAOp, .a :: Part.nzc), ("ROL A", rolAOp, .a :: Part.nzc),
    ("ROR A", rorAOp, .a :: Part.nzc),
    ("ASL", aslOp, Part.nzc), ("LSR", lsrOp, Part.nzc), ("ROL", rolOp, Part.nzc), ("ROR", rorOp, Part.nzc),
    ("INC", incOp, Part.nz), ("DEC", decOp, Part.nz),
    ("INX", inxOp, .x :: Part.nz), ("INY", inyOp, .y :: Part.nz), ("DEX", dexOp, .x :: Part.nz),
    ("DEY", deyOp, .y :: Part.nz),
    ("CMP", cmpOp, Part.nzc), ("CPX", cpxOp, Part.nzc), ("CPY", cpyOp, Part.nzc),
    ("JMP", jmpOp, [.pc]), ("JSR", jsrOp, [.sp, .pc]), ("RTS", rtsOp, [.sp, .pc]),
    ("RTI", rtiOp, .sp :: .pc :: Part.allFlags),
    ("BPL", bplOp, [.pc]), ("BMI", bmiOp, [.pc]), ("BVC", bvcOp, [.pc]), ("BVS", bvsOp, [.pc]),
    ("BCC", bccOp, [.pc]), ("BCS", bcsOp, [.pc]), ("BNE", bneOp, [.pc]), ("BEQ", beqOp, [.pc]),
    ("BRK", brkOp, [.sp, .pc, .flag .I]), ("NOP", nopOp, []),
    ("CLC", clcOp, [.flag .C]), ("SEC", secOp, [.flag .C]), ("CLI", cliOp, [.flag .I]), ("SEI", seiOp, [.flag .I]),
    ("CLV", clvOp, [.flag .V]), ("CLD", cldOp, [.flag .D]), ("SED", sedOp, [.flag .D]),
    ("PHA", phaOp, [.sp]), ("PLA", plaOp, .sp :: .a :: Part.nz), ("PHP", phpOp, [.sp]),
    ("PLP", plpOp, .sp :: Part.allFlags),
    ("SLO", sloOp, .a :: Part.nzc), ("RLA", rlaOp, .a :: Part.nzc), ("SRE", sreOp, .a :: Part.nzc),
    ("RRA", rraOp, .a :: Part.nvzc), ("DCP", dcpOp, Part.nzc), ("ISC", iscOp, .a :: Part.nvzc),
    ("SAX", saxOp, []), ("LAX", laxOp, .a :: .x :: Part.nz),
    ("ANC", ancOp, .a :: Part.nzc), ("ALR", alrOp, .a :: Part.nzc), ("ARR", arrOp, .a :: Part.nvzc),
    ("AXS", axsOp, .x :: Part.nzc), ("SHY", shyOp, []), ("SHX", shxOp, [])]

/-- Every row is right: the behaviour writes no part that its row does not name. -/
theorem footprints_sound : ∀ e ∈ footprints, ∀ ea s, Writes e.2.2 s (e.2.1 ea s) := by
  simp only [footprints, List.forall_mem_cons]
  exact ⟨ldaOp_writes, ldxOp_writes, ldyOp_writes,
    fun ea s => memWrite_writes _ s ea s.a, fun ea s => memWrite_writes _ s ea s.x,
    fun ea s => memWrite_writes _ s ea s.y,
    fun _ s => resultX_writes s s.a, fun _ s => resultA_writes s s.x, fun _ s => resultY_writes s s.a,
    fun _ s => resultA_writes s s.y, fun _ s => resultX_writes s s.sp, fun _ s => setSp_writes s s.x,
    adcOp_writes, sbcOp_writes, andOp_writes, oraOp_writes, eorOp_writes, bitOp_writes,
    fun _ => shiftA_writes aslOf, fun _ => shiftA_writes lsrOf, fun _ => shiftA_writes rolOf,
    fun _ => shiftA_writes rorOf,
    shiftMem_writes aslOf, shiftMem_writes lsrOf, shiftMem_writes rolOf, shiftMem_writes rorOf,
    stepMem_writes (· + 1), stepMem_writes (· - 1),
    fun _ s => resultX_writes s (s.x + 1), fun _ s => resultY_writes s (s.y + 1),
    fun _ s => resultX_writes s (s.x - 1), fun _ s => resultY_writes s (s.y - 1),
    fun ea s => compareAt_writes s.a ea s, fun ea s => compareAt_writes s.x ea s,
    fun ea s => compareAt_writes s.y ea s,
    fun ea s => setPc_writes s ea, jsrOp_writes, rtsOp_writes, rtiOp_writes,
    fun ea s => branchIf_writes (!s.flag .N) ea s, fun ea s => branchIf_writes (s.flag .N) ea s,
    fun ea s => branchIf_writes (!s.flag .V) ea s, fun ea s => branchIf_writes (s.flag .V) ea s,
    fun ea s => branchIf_writes (!s.flag .C) ea s, fun ea s => branchIf_writes (s.flag .C) ea s,
    fun ea s => branchIf_writes (!s.flag .Z) ea s, fun ea s => branchIf_writes (s.flag .Z) ea s,
    brkOp_writes, fun _ s => Writes.refl _ s,
    fun _ s => setFlag_writes s .C false, fun _ s => setFlag_writes s .C true,
    fun _ s => setFlag_writes s .I false, fun _ s => setFlag_writes s .I true,
    fun _ s => setFlag_writes s .V false, fun _ s => setFlag_writes s .D false,
    fun _ s => setFlag_writes s .D true,
    fun _ s => push8_writes s s.a, plaOp_writes, fun _ s => push8_writes s (pushedStatus true s.p), plpOp_writes,
    sloOp_writes, rlaOp_writes, sreOp_writes, rraOp_writes, dcpOp_writes, iscOp_writes,
    fun ea s => memWrite_writes _ s ea (s.a &&& s.x), laxOp_writes,
    ancOp_writes, alrOp_writes, arrOp_writes, axsOp_writes,
    fun _ s => memWrite_writes _ s _ _, fun _ s => memWrite_writes _ s _ _, List.forall_mem_nil _⟩

/-- A behaviour is that of the row found under the instruction's mnemonic. -/
theorem behaviourOf_eq_find (i : Instr) :
    behaviourOf i = (footprints.find? (·.1 == i.row.mnemonic)).map (·.2.1) := by
  cases i <;> rfl

/-- An instruction that completes writes no part but those some row of its mnemonic names. -/
theorem exec_writes {i : Instr} (h : exec i s = .next t) :
    ∃ e ∈ footprints, e.1 = i.row.mnemonic ∧ Writes e.2.2 s t := by
  obtain ⟨f, hf, rfl⟩ := exec_next h
  rw [behaviourOf_eq_find, Option.map_eq_some_iff] at hf
  obtain ⟨e, he, rfl⟩ := hf
  have hmem := List.mem_of_find?_eq_some he
  exact ⟨e, hmem, by simpa using List.find?_some he,
    ((addressed_writes _ i s).trans (footprints_sound e hmem _ _)).trans (addWait_writes _ _ _)⟩

/-- A part that only the rows of some mnemonics name is left by every other instruction. -/
theorem exec_keeps {i : Instr} {p : Part} {names : List String} (h : exec i s = .next t)
    (hn : ∀ e ∈ footprints, p ∈ e.2.2 → e.1 ∈ names) (hi : i.row.mnemonic ∉ names) : p.same s t := by
  obtain ⟨e, he, hm, hw⟩ := exec_writes h
  exact hw p fun hp => hi (hm ▸ hn e he hp)

/-- The flags the table of 10_state.md R33 gives for a mnemonic. -/
def flagRow (m : String) : List Flag :=
  if m ∈ ["LDA", "LDX", "LDY", "TAX", "TXA", "TAY", "TYA", "TSX", "PLA", "AND", "ORA", "EOR", "INC",
    "DEC", "INX", "INY", "DEX", "DEY", "LAX"] then [.N, .Z]
  else if m ∈ ["ADC", "SBC", "RRA", "ISC", "ARR"] then [.N, .V, .Z, .C]
  else if m ∈ ["CMP", "CPX", "CPY", "DCP", "AXS", "ASL", "LSR", "ROL", "ROR", "ASL A", "LSR A",
    "ROL A", "ROR A", "SLO", "RLA", "SRE", "ANC", "ALR"] then [.N, .Z, .C]
  else if m = "BIT" then [.N, .V, .Z]
  else if m ∈ ["CLC", "SEC"] then [.C]
  else if m ∈ ["CLI", "SEI", "BRK"] then [.I]
  else if m ∈ ["CLD", "SED"] then [.D]
  else if m = "CLV" then [.V]
  else if m ∈ ["PLP", "RTI"] then [.N, .V, .U, .B, .D, .I, .Z, .C]
  else []

/-- Every flag a behaviour may write is in its row of R33. -/
theorem footprints_flagRow (f : Flag) : ∀ e ∈ footprints, .flag f ∈ e.2.2 → f ∈ flagRow e.1 := by
  cases f <;> decide

/-- Settles O20: the flags a behaviour may write are those of its row of the table. -/
theorem flagTable : Obligations.FlagTable := by
  intro i s t h may f hf
  obtain ⟨e, he, hm, hw⟩ := exec_writes h
  exact hw (.flag f) fun hp => hf (show f ∈ flagRow i.row.mnemonic from hm ▸ footprints_flagRow f e he hp)

/-- Settles O21: the rows that name a register are those of the instructions that may change it. -/
theorem registerTable : Obligations.RegisterTable := fun _ _ _ h =>
  ⟨exec_keeps (p := .a) h (by decide), exec_keeps (p := .x) h (by decide), exec_keeps (p := .y) h (by decide),
    exec_keeps (p := .sp) h (by decide), exec_keeps (p := .pc) h (by decide)⟩

/-- Settles O16: a run of register writes and bus accesses leaves the rest of the state (10_state.md R44). -/
theorem instructionsLeave : Obligations.InstructionsLeave := by
  intro i s t h
  obtain ⟨hirq, hnmi, hdec, hdbg, hpar, htick, hcount, htrace, hdev⟩ := exec_touches h
  exact ⟨hirq, hnmi, hdec, hdbg, hpar, htick, hcount, htrace, hdev.fixedPart⟩

end Sys2Proof.Machine
end

section
/-! Memory contents, devices and the bus (20_memory.md R51 to R61, R64): the canonical form, the first-match decoder, what
a tick keeps, and the memory frame of the instructions. Which addresses an instruction may store to is one function of
its mnemonic, `storeAddrs`: it is shown right once for each behaviour, and the three frames are read off it. -/

namespace Sys2Proof

/-! ## Memory contents -/

theorem Memory.wf_cons (k : Nat) (v : Byte) (m : Memory) :
    Memory.wf ((k, v) :: m) = true ↔ v ≠ Memory.unlisted ∧ Memory.above k m = true ∧ Memory.wf m = true := by
  simp [Memory.wf, and_assoc]

/-- Canonical contents read as unlisted below their first index. -/
theorem Memory.read_of_lt_head {k i : Nat} {v : Byte} {m : Memory} (hw : Memory.wf ((k, v) :: m) = true) (hi : i < k) :
    Memory.read ((k, v) :: m) i = Memory.unlisted := by
  obtain ⟨-, ha, hm⟩ := (Memory.wf_cons k v m).mp hw
  rw [Memory.read_cons, if_neg (by omega)]
  exact Memory.read_of_above hm ha (by omega)

/-- Nonempty canonical contents do not read as unlisted at their first index. -/
theorem Memory.read_head_ne {k : Nat} {v : Byte} {m : Memory} (hw : Memory.wf ((k, v) :: m) = true) :
    Memory.read ((k, v) :: m) k ≠ Memory.unlisted := by
  rw [Memory.read_cons, if_pos rfl]
  exact ((Memory.wf_cons k v m).mp hw).1

/-- Of two canonical contents that read alike, neither begins before the other. -/
theorem Memory.head_le_of_read_eq {k k' : Nat} {v v' : Byte} {m m' : Memory} (hw : Memory.wf ((k, v) :: m) = true)
    (hw' : Memory.wf ((k', v') :: m') = true)
    (hr : ∀ i, Memory.read ((k, v) :: m) i = Memory.read ((k', v') :: m') i) : k' ≤ k := by
  by_contra hlt
  exact Memory.read_head_ne hw ((hr k).trans (Memory.read_of_lt_head hw' (by omega)))

/-- The tails of canonical contents with the same first index read alike if the whole contents do: up to that index both
tails are unlisted, above it they are the whole. -/
theorem Memory.tail_read_eq {k : Nat} {v v' : Byte} {m m' : Memory} (hw : Memory.wf ((k, v) :: m) = true)
    (hw' : Memory.wf ((k, v') :: m') = true)
    (hr : ∀ i, Memory.read ((k, v) :: m) i = Memory.read ((k, v') :: m') i) (i : Nat) :
    Memory.read m i = Memory.read m' i := by
  obtain ⟨-, ha, hm⟩ := (Memory.wf_cons k v m).mp hw
  obtain ⟨-, ha', hm'⟩ := (Memory.wf_cons k v' m').mp hw'
  by_cases hi : i ≤ k
  · rw [Memory.read_of_above hm ha hi, Memory.read_of_above hm' ha' hi]
  · have h := hr i
    rwa [Memory.read_cons, Memory.read_cons, if_neg (by omega), if_neg (by omega)] at h

/-- Canonical contents are fixed by what they read as. -/
theorem Memory.eq_of_read_eq {m m' : Memory} (hw : Memory.wf m = true) (hw' : Memory.wf m' = true)
    (hr : ∀ i, Memory.read m i = Memory.read m' i) : m = m' := by
  induction m generalizing m' with
  | nil =>
    cases m' with
    | nil => rfl
    | cons c m' => exact absurd (hr c.1).symm (Memory.read_head_ne hw')
  | cons c m ih =>
    obtain ⟨k, v⟩ := c
    cases m' with
    | nil => exact absurd (hr k) (Memory.read_head_ne hw)
    | cons c' m' =>
      obtain ⟨k', v'⟩ := c'
      obtain rfl : k = k' :=
        le_antisymm (Memory.head_le_of_read_eq hw' hw fun i => (hr i).symm) (Memory.head_le_of_read_eq hw hw' hr)
      have hv : v = v' := by simpa [Memory.read_cons] using hr k
      have hm : m = m' := ih ((Memory.wf_cons k v m).mp hw).2.2 ((Memory.wf_cons k v' m').mp hw').2.2
        (Memory.tail_read_eq hw hw' hr)
      rw [hv, hm]

/-- Settles O25: by induction on both contents, whose first indexes and first bytes must agree. -/
theorem canonicalForm : Obligations.CanonicalForm := fun _ _ hw hw' hr => Memory.eq_of_read_eq hw hw' hr

/-- Settles O24: the two laws of a read after a write, at the index the offset selects. -/
theorem ramAndRom : Obligations.RamAndRom := by
  intro size m off off' v hw
  refine ⟨?_, rfl, rfl, rfl, rfl⟩
  simp only [Store.write, Store.read]
  split
  · next he => rw [he, Memory.read_write_same hw]
  · next hne => rw [Memory.read_write_ne hne]

/-! ## The address decoder -/

theorem Device.covers_eq_false {d : Device} {a : Word} (h : ¬ (d.first.toNat ≤ a.toNat ∧ a.toNat ≤ d.last.toNat)) :
    d.covers a = false := by
  rwa [← Device.covers_iff, Bool.not_eq_true] at h

/-- Devices whose windows do not hold the address are passed over by a read. -/
theorem busRead_append {ds : List Device} {a : Word} (h : ∀ e ∈ ds, e.covers a = false) (es : List Device) :
    busRead (ds ++ es) a = ((busRead es a).1, ds ++ (busRead es a).2) := by
  induction ds with
  | nil => rfl
  | cons d ds ih =>
    obtain ⟨hd, hds⟩ := List.forall_mem_cons.mp h
    simp [busRead, hd, ih hds]

/-- Devices whose windows do not hold the address are passed over by a write. -/
theorem busWrite_append {ds : List Device} {a : Word} (h : ∀ e ∈ ds, e.covers a = false) (es : List Device) (v : Byte) :
    busWrite (ds ++ es) a v = ds ++ busWrite es a v := by
  induction ds with
  | nil => rfl
  | cons d ds ih =>
    obtain ⟨hd, hds⟩ := List.forall_mem_cons.mp h
    simp [busWrite, hd, ih hds]

/-- Settles O23: the devices before the match are passed over, and at the match the decoder stops. -/
theorem firstMatchDecoder : Obligations.FirstMatchDecoder := by
  refine ⟨fun before after d a v hb hlo hhi => ?_, fun ds a v hn => ?_⟩
  · have hb' : ∀ e ∈ before, e.covers a = false := fun e he => Device.covers_eq_false (hb e he)
    have hd : d.covers a = true := (Device.covers_iff d a).mpr ⟨hlo, hhi⟩
    rw [busRead_append hb', busWrite_append hb']
    simp [busRead, busWrite, hd, Device.offset]
  · have hn' : ∀ e ∈ ds, e.covers a = false := fun e he => Device.covers_eq_false (hn e he)
    exact ⟨by simpa [busRead] using busRead_append hn' [], by simpa [busWrite] using busWrite_append hn' [] v⟩

/-! ## Runs of reads, and of writes to given addresses -/

/-- `es` comes from `ds` by bus reads, and by bus writes to addresses of `ws` only. -/
inductive StoredAt (ws : List Word) (ds : List Device) : List Device → Prop where
  | refl : StoredAt ws ds ds
  | read {es : List Device} (h : StoredAt ws ds es) (a : Word) : StoredAt ws ds (busRead es a).2
  | write {es : List Device} (h : StoredAt ws ds es) {a : Word} (ha : a ∈ ws) (v : Byte) :
      StoredAt ws ds (busWrite es a v)

variable {ws : List Word} {ds es fs : List Device}

theorem StoredAt.trans (h : StoredAt ws ds es) (h' : StoredAt ws es fs) : StoredAt ws ds fs := by
  induction h' with
  | refl => exact h
  | read _ a ih => exact ih.read a
  | write _ ha v ih => exact ih.write ha v

theorem StoredAt.accessed (h : StoredAt ws ds es) : Accessed ds es := by
  induction h with
  | refl => exact Accessed.refl ds
  | read _ a ih => exact ih.read a
  | write _ _ v ih => exact ih.write _ v

/-- A settled address outside the bytes stored reads as before. -/
theorem StoredAt.busRead_eq {b : Word} (h : StoredAt ws ds es) (hb : settled ds b = true)
    (hap : ∀ w ∈ ws, cellOf ds b = none ∨ cellOf ds w ≠ cellOf ds b) : (busRead es b).1 = (busRead ds b).1 := by
  induction h with
  | refl => rfl
  | read h a ih => rw [busRead_busRead ((settled_accessed h.accessed b).trans hb), ih]
  | write h ha v ih =>
    refine (busRead_busWrite_apart ((settled_accessed h.accessed b).trans hb) ?_ v).trans ih
    rw [cellOf_accessed h.accessed, cellOf_accessed h.accessed]
    exact hap _ ha

end Sys2Proof

namespace Sys2Proof.Machine

/-- Settles O26: a RAM gives back what was written to the cell, and a write leaves every other cell. -/
theorem readAfterWrite : Obligations.ReadAfterWrite := fun _ _ _ v =>
  ⟨fun hinv hb hc => busRead_busWrite_backed hinv.1 hb hc v, fun hs hap => busRead_busWrite_apart hs hap v⟩

/-! ## The tick -/

/-- A list of one ticker gives that ticker its turn. -/
theorem fanOut_singleton (k : Ticker) (s : State) : fanOut [k] s = tickerTurn k s := by
  simp only [fanOut]
  cases tickerTurn k s <;> rfl

/-- Settles O11: the fan-out over an appended list begins with the first part. -/
theorem fanOutOrder : Obligations.FanOutOrder :=
  ⟨fun _ => rfl, fun _ => rfl, fun s => fanOut_singleton .cpu s, fun id s => fanOut_singleton (.subscriber id) s,
    fun before after s =>
      ⟨fun t h => by rw [fanOut_append, h], fun r h => by rw [fanOut_append, h]⟩⟩

/-- Settles O13: whoever takes a turn, the devices go through bus accesses only, and the ticker list stays. -/
theorem stepKeepsInv : Obligations.StepKeepsInv := by
  intro s t hinv h
  have ht := step_ticked h
  exact ⟨ht.devices.ok hinv.1, (congrArg tickersOk ht.tickers).trans hinv.2⟩

/-- Settles O15: a bus access changes no fixed part of a device, and no turn changes the rest of the platform. -/
theorem platformFixed : Obligations.PlatformFixed := by
  intro s t h
  obtain ⟨hdec, hdbg, hpar, htick, hcount, hdev⟩ := step_ticked h
  exact ⟨by simp only [State.platform, hdev.fixedPart, htick, hdec, hdbg, hpar], hcount⟩

/-! ## What each behaviour stores -/

variable {ws : List Word} {s t : State}

/-- The resolver only reads (40_step_and_addressing.md R103). -/
theorem resolve_stored (ws : List Word) (m : Mode) (arg operand : Word) (s : State) :
    StoredAt ws s.devices (resolve m arg operand s).2.devices := by
  have two : ∀ a b : Word, StoredAt ws s.devices (s.memRead2 a b).2.devices := fun a b => (StoredAt.refl.read a).read b
  cases m
  case abx | aby =>
    simp only [resolve, indexed_cases]
    exact .refl
  case izy =>
    simp only [resolve, indexed_cases]
    exact two _ _
  case izx => exact two _ _
  case ind => exact two _ _
  all_goals exact .refl

theorem shiftMem_stored (f : Shift) {ea : Word} (s : State) (h : ea ∈ ws) :
    StoredAt ws s.devices (shiftMem f ea s).devices :=
  .read (.write (.read .refl ea) h _) ea

theorem stepMem_stored (f : Byte → Byte) {ea : Word} (s : State) (h : ea ∈ ws) :
    StoredAt ws s.devices (stepMem f ea s).devices := by
  have hw : StoredAt ws s.devices ((s.memRead ea).2.memWrite ea (f (s.memRead ea).1)).devices :=
    .write (.read .refl ea) h _
  simp only [stepMem]
  split
  · exact hw
  · exact hw.read ea

theorem branchIf_stored (ws : List Word) (c : Bool) (ea : Word) (s : State) :
    StoredAt ws s.devices (branchIf c ea s).devices := by
  simp only [branchIf]
  split
  · split <;> exact .refl
  · exact .refl

theorem push16_stored (s : State) (w : Word) (h0 : stackAddr s.sp ∈ ws) (h1 : stackAddr (s.sp - 1) ∈ ws) :
    StoredAt ws s.devices (s.push16 w).devices := .write (.write .refl h0 _) h1 _

theorem enterHandler_stored (s : State) (ret : Word) (b : Bool) (vec : Word) (h0 : stackAddr s.sp ∈ ws)
    (h1 : stackAddr (s.sp - 1) ∈ ws) (h2 : stackAddr (s.sp - 1 - 1) ∈ ws) :
    StoredAt ws s.devices (s.enterHandler ret b vec).devices :=
  .read (.read (.write (push16_stored s ret h0 h1) h2 _) vec) (vec + 1)

/-- The mnemonics whose behaviours store at the effective address. -/
def effectiveStores : List String :=
  ["STA", "STX", "STY", "SAX", "ASL", "LSR", "ROL", "ROR", "INC", "DEC", "SLO", "RLA", "SRE", "RRA", "DCP", "ISC"]

/-- The addresses the behaviour of a mnemonic may store to, from its effective address and the state it runs from. -/
def storeAddrs (m : String) (ea : Word) (s : State) : List Word :=
  if m ∈ effectiveStores then [ea]
  else if m = "SHY" then [highAddress s.params.shxyCross s.y s.x ea]
  else if m = "SHX" then [highAddress s.params.shxyCross s.x s.y ea]
  else if m ∈ ["PHA", "PHP"] then [stackAddr s.sp]
  else if m = "JSR" then [stackAddr s.sp, stackAddr (s.sp - 1)]
  else if m = "BRK" then [stackAddr s.sp, stackAddr (s.sp - 1), stackAddr (s.sp - 2)]
  else []

theorem storeAddrs_effective {m : String} (hm : m ∈ effectiveStores) (ea : Word) (s : State) :
    storeAddrs m ea s = [ea] := if_pos hm

theorem storeAddrs_shy (ea : Word) (s : State) :
    storeAddrs "SHY" ea s = [highAddress s.params.shxyCross s.y s.x ea] := rfl

theorem storeAddrs_shx (ea : Word) (s : State) :
    storeAddrs "SHX" ea s = [highAddress s.params.shxyCross s.x s.y ea] := rfl

theorem storeAddrs_pha (ea : Word) (s : State) : storeAddrs "PHA" ea s = [stackAddr s.sp] := rfl

theorem storeAddrs_php (ea : Word) (s : State) : storeAddrs "PHP" ea s = [stackAddr s.sp] := rfl

theorem storeAddrs_jsr (ea : Word) (s : State) :
    storeAddrs "JSR" ea s = [stackAddr s.sp, stackAddr (s.sp - 1)] := rfl

theorem storeAddrs_brk (ea : Word) (s : State) :
    storeAddrs "BRK" ea s = [stackAddr s.sp, stackAddr (s.sp - 1), stackAddr (s.sp - 2)] := rfl

/-- A mnemonic that is none of the storing ones stores nowhere. -/
theorem storeAddrs_none {m : String}
    (hm : m ∉ ["STA", "STX", "STY", "SAX", "SHX", "SHY", "ASL", "LSR", "ROL", "ROR", "INC", "DEC", "SLO", "RLA", "SRE",
      "RRA", "DCP", "ISC", "PHA", "PHP", "JSR", "BRK"]) (ea : Word) (s : State) : storeAddrs m ea s = [] := by
  simp only [List.mem_cons, List.not_mem_nil, or_false, not_or] at hm
  simp [storeAddrs, effectiveStores, hm]

theorem ea_mem_storeAddrs {m : String} {ea : Word} {s : State} (hm : m ∈ effectiveStores := by decide) :
    ea ∈ storeAddrs m ea s := by simp [storeAddrs_effective hm]

/-- Every behaviour stores to no other addresses. -/
theorem footprints_stored : ∀ e ∈ footprints, ∀ ea s, StoredAt (storeAddrs e.1 ea s) s.devices (e.2.1 ea s).devices := by
  simp only [footprints, List.forall_mem_cons]
  exact ⟨
    -- LDA to LDY, STA to STY
    fun ea _ => .read .refl ea, fun ea _ => .read .refl ea, fun ea _ => .read .refl ea,
    fun _ s => .write .refl ea_mem_storeAddrs s.a, fun _ s => .write .refl ea_mem_storeAddrs s.x,
    fun _ s => .write .refl ea_mem_storeAddrs s.y,
    -- TAX to TXS
    fun _ _ => .refl, fun _ _ => .refl, fun _ _ => .refl, fun _ _ => .refl, fun _ _ => .refl, fun _ _ => .refl,
    -- ADC to BIT
    fun ea _ => .read .refl ea, fun ea _ => .read .refl ea, fun ea _ => .read .refl ea, fun ea _ => .read .refl ea,
    fun ea _ => .read .refl ea, fun ea _ => .read .refl ea,
    -- the shifts of A, then of memory; INC and DEC
    fun _ _ => .refl, fun _ _ => .refl, fun _ _ => .refl, fun _ _ => .refl,
    fun _ s => shiftMem_stored aslOf s ea_mem_storeAddrs, fun _ s => shiftMem_stored lsrOf s ea_mem_storeAddrs,
    fun _ s => shiftMem_stored rolOf s ea_mem_storeAddrs, fun _ s => shiftMem_stored rorOf s ea_mem_storeAddrs,
    fun _ s => stepMem_stored (· + 1) s ea_mem_storeAddrs, fun _ s => stepMem_stored (· - 1) s ea_mem_storeAddrs,
    -- INX to DEY, the compares
    fun _ _ => .refl, fun _ _ => .refl, fun _ _ => .refl, fun _ _ => .refl,
    fun ea _ => .read .refl ea, fun ea _ => .read .refl ea, fun ea _ => .read .refl ea,
    -- JMP, JSR, RTS, RTI, the branches
    fun _ _ => .refl,
    fun _ s => push16_stored s _ (by simp [storeAddrs_jsr]) (by simp [storeAddrs_jsr]),
    fun _ _ => .read (.read .refl _) _, fun _ _ => .read (.read (.read .refl _) _) _,
    fun ea s => branchIf_stored _ _ ea s, fun ea s => branchIf_stored _ _ ea s, fun ea s => branchIf_stored _ _ ea s,
    fun ea s => branchIf_stored _ _ ea s, fun ea s => branchIf_stored _ _ ea s, fun ea s => branchIf_stored _ _ ea s,
    fun ea s => branchIf_stored _ _ ea s, fun ea s => branchIf_stored _ _ ea s,
    -- BRK, NOP, the flag instructions
    fun _ s => enterHandler_stored s _ _ _ (by simp [storeAddrs_brk]) (by simp [storeAddrs_brk])
      (by simp [storeAddrs_brk, sub_sub]),
    fun _ _ => .refl, fun _ _ => .refl, fun _ _ => .refl, fun _ _ => .refl, fun _ _ => .refl, fun _ _ => .refl,
    fun _ _ => .refl, fun _ _ => .refl,
    -- PHA, PLA, PHP, PLP
    fun _ s => .write .refl (by simp [storeAddrs_pha]) s.a, fun _ _ => .read .refl _,
    fun _ _ => .write .refl (by simp [storeAddrs_php]) _, fun _ _ => .read .refl _,
    -- SLO to ISC: the memory behaviour, then a read of the same address
    fun ea s => .read (shiftMem_stored aslOf s ea_mem_storeAddrs) ea,
    fun ea s => .read (shiftMem_stored rolOf s ea_mem_storeAddrs) ea,
    fun ea s => .read (shiftMem_stored lsrOf s ea_mem_storeAddrs) ea,
    fun ea s => .read (shiftMem_stored rorOf s ea_mem_storeAddrs) ea,
    fun ea s => .read (stepMem_stored (· - 1) s ea_mem_storeAddrs) ea,
    fun ea s => .read (stepMem_stored (· + 1) s ea_mem_storeAddrs) ea,
    -- SAX, LAX, ANC to AXS, SHY, SHX
    fun _ _ => .write .refl ea_mem_storeAddrs _, fun ea _ => .read (.read .refl ea) ea,
    fun ea _ => .read .refl ea, fun ea _ => .read .refl ea, fun ea _ => .read .refl ea, fun ea _ => .read .refl ea,
    fun _ _ => .write .refl (by simp [storeAddrs_shy]) _, fun _ _ => .write .refl (by simp [storeAddrs_shx]) _,
    List.forall_mem_nil _⟩

/-- An instruction's own resolution leaves the addresses its behaviour may store to. -/
theorem storeAddrs_addressed (i : Instr) (m : String) (ea : Word) (s : State) :
    storeAddrs m ea (addressed i s).2 = storeAddrs m ea s := by
  simp only [storeAddrs, addressed_sp, addressed_x, addressed_y, (addressed_touches i s).params]

/-- All an instruction can do to the bus (20_memory.md R64): reads, and writes to the addresses of its mnemonic. -/
theorem exec_stored {i : Instr} (h : exec i s = .next t) :
    StoredAt (storeAddrs i.row.mnemonic (addressed i s).1 s) s.devices t.devices := by
  obtain ⟨f, hf, rfl⟩ := exec_next h
  rw [behaviourOf_eq_find, Option.map_eq_some_iff] at hf
  obtain ⟨e, he, rfl⟩ := hf
  have hm : e.1 = i.row.mnemonic := by simpa using List.find?_some he
  have hs := footprints_stored e (List.mem_of_find?_eq_some he) (addressed i s).1 (addressed i s).2
  rw [storeAddrs_addressed, hm] at hs
  exact (resolve_stored _ _ _ _ s).trans hs

/-- The memory frame of an instruction: a settled address outside the bytes it may store reads as before. -/
theorem exec_peek {i : Instr} {ws : List Word} {a : Word} (h : exec i s = .next t)
    (hw : storeAddrs i.row.mnemonic (addressed i s).1 s = ws) (ha : settled s.devices a = true)
    (hap : ∀ w ∈ ws, s.apart w a) : t.peek a = s.peek a :=
  (hw ▸ exec_stored h).busRead_eq ha hap

/-- Settles O58: a mnemonic that is not listed stores nowhere. -/
theorem nonStoringFrame : Obligations.NonStoringFrame := fun _ _ _ h hm _ ha =>
  exec_peek h (storeAddrs_none hm _ _) ha (by simp)

/-- Settles O59: a mnemonic of the list stores at its effective address only. -/
theorem storingFrame : Obligations.StoringFrame := fun _ _ _ h hm _ ha hap =>
  exec_peek h (storeAddrs_effective hm _ _) ha (by simpa using hap)

/-- Settles O60: the addresses of SHY, SHX and of the pushes, from the registers before the instruction. -/
theorem otherStoringFrame : Obligations.OtherStoringFrame := by
  intro w s t a ha
  refine ⟨fun h hap => ?shy, fun h hap => ?shx, fun h hap => ?push, fun h h0 h1 => ?jsr, fun h h0 h1 h2 => ?brk⟩
  case shy => exact exec_peek h (storeAddrs_shy _ _) ha (by simpa using hap)
  case shx => exact exec_peek h (storeAddrs_shx _ _) ha (by simpa using hap)
  case push =>
    rcases h with h | h
    · exact exec_peek h (storeAddrs_pha _ _) ha (by simpa using hap)
    · exact exec_peek h (storeAddrs_php _ _) ha (by simpa using hap)
  case jsr => exact exec_peek h (storeAddrs_jsr _ _) ha (by simpa using ⟨h0, h1⟩)
  case brk => exact exec_peek h (storeAddrs_brk _ _) ha (by simpa using ⟨h0, h1, h2⟩)

end Sys2Proof.Machine
end

section
/-! Decoding and encoding (30_encoding.md). What the decoder does is said once per operand-byte count (R81): from there the
encoder and the decoder are shown inverse, `decode_eq_ok_iff`, for all 256 opcodes at once. Instructions of one `meaning`,
of which R89 lists the duplicate encodings, execute alike. -/

namespace Sys2Proof

/-! ## The decoder, by the number of operand bytes -/

theorem operandCount_cases (op : Byte) : operandCount op = 0 ∨ operandCount op = 1 ∨ operandCount op = 2 :=
  operandBytes_le _

theorem decode_no_operand {op : Byte} (h : operandCount op = 0) (rest : List Byte) :
    decode (op :: rest) = .ok (instrOf op 0 0, rest) := by
  simp only [decode, h]

theorem decode_byte_operand {op : Byte} (h : operandCount op = 1) (b : Byte) (rest : List Byte) :
    decode (op :: b :: rest) = .ok (instrOf op b 0, rest) := by
  simp only [decode, h]

theorem decode_word_operand {op : Byte} (h : operandCount op = 2) (lo hi : Byte) (rest : List Byte) :
    decode (op :: lo :: hi :: rest) = .ok (instrOf op 0 (mkWord hi lo), rest) := by
  simp only [decode, h]

/-- Bytes that decode begin with an opcode and as many operand bytes as it takes. -/
theorem decode_ok_cases {bytes rest : List Byte} {i : Instr} (h : decode bytes = .ok (i, rest)) :
    (∃ op, operandCount op = 0 ∧ bytes = op :: rest ∧ i = instrOf op 0 0) ∨
    (∃ op b, operandCount op = 1 ∧ bytes = op :: b :: rest ∧ i = instrOf op b 0) ∨
    (∃ op lo hi, operandCount op = 2 ∧ bytes = op :: lo :: hi :: rest ∧ i = instrOf op 0 (mkWord hi lo)) := by
  match bytes with
  | [] => simp [decode] at h
  | op :: tail =>
    rcases operandCount_cases op with hn | hn | hn
    · rw [decode_no_operand hn] at h
      cases h
      exact .inl ⟨op, hn, rfl, rfl⟩
    · match tail with
      | [] => simp [decode, hn] at h
      | b :: tail =>
        rw [decode_byte_operand hn] at h
        cases h
        exact .inr (.inl ⟨op, b, hn, rfl, rfl⟩)
    · match tail with
      | [] | [_] => simp [decode, hn] at h
      | lo :: hi :: tail =>
        rw [decode_word_operand hn] at h
        cases h
        exact .inr (.inr ⟨op, lo, hi, hn, rfl, rfl⟩)

/-! ## Encoder and decoder are inverse -/

/-- Each opcode, whatever the bytes after it: the operand bytes its mode does not take stand in neither the encoding nor
the instruction. -/
theorem decode_encode_instrOf (op b : Byte) (w : Word) (rest : List Byte) :
    decode (encode (instrOf op b w) ++ rest) = .ok (instrOf op b w, rest) := by
  obtain ⟨unused0, unused1, unused2⟩ := instrOf_unused op b w
  rw [encode_instrOf]
  rcases operandCount_cases op with hn | hn | hn <;> simp only [hn, List.cons_append, List.nil_append]
  · rw [decode_no_operand hn, unused0 hn]
  · rw [decode_byte_operand hn, unused1 hn]
  · rw [decode_word_operand hn, mkWord_halves, unused2 hn]

/-- Settles O1: an instruction is what its row's opcode and its operand stand for. -/
theorem decodeOfEncode : Obligations.DecodeOfEncode := fun i rest => by
  rw [← instrOf_row i]
  exact decode_encode_instrOf _ _ _ rest

/-- Settles O2: the bytes read are the opcode and its operand bytes, which are the encoding. -/
theorem encodeOfDecode : Obligations.EncodeOfDecode := by
  intro bytes rest i h
  obtain ⟨op, hn, rfl, rfl⟩ | ⟨op, b, hn, rfl, rfl⟩ | ⟨op, lo, hi, hn, rfl, rfl⟩ := decode_ok_cases h <;>
    simp [encode_instrOf, hn]

/-- The decoder reads an instruction exactly from the bytes that begin with its encoding. -/
theorem decode_eq_ok_iff {bytes rest : List Byte} {i : Instr} :
    decode bytes = .ok (i, rest) ↔ bytes = encode i ++ rest :=
  ⟨encodeOfDecode bytes rest i, fun h => h ▸ decodeOfEncode i rest⟩

/-- Any three bytes are the encoding of what the first stands for, and the operand bytes it does not take. -/
theorem encode_instrOf_append_drop (op b1 b2 : Byte) (rest : List Byte) :
    encode (instrOf op b1 (mkWord b2 b1)) ++ (b1 :: b2 :: rest).drop (operandCount op) = op :: b1 :: b2 :: rest := by
  rcases operandCount_cases op with hn | hn | hn <;> simp [encode_instrOf, hn]

theorem length_encode_instrOf (op b : Byte) (w : Word) : (encode (instrOf op b w)).length = 1 + operandCount op := by
  rcases operandCount_cases op with hn | hn | hn <;> simp [encode_instrOf, hn]

end Sys2Proof

namespace Sys2Proof.Machine

/-! ## Duplicate encodings -/

/-- All that `exec` takes from an instruction: its behaviour, and the mode, base cycles and operand of its row. -/
def meaning (i : Instr) : Option (Word → State → State) × Mode × Nat × Word :=
  (behaviourOf i, i.row.mode, i.row.cycles, i.operand)

theorem exec_congr {i j : Instr} (h : meaning i = meaning j) (s : State) : exec i s = exec j s := by
  simp only [meaning, Prod.mk.injEq] at h
  obtain ⟨hbehaviour, hmode, hcycles, hoperand⟩ := h
  simp only [exec_eq, instrTick, addressed, argAddr, hbehaviour, hmode, hcycles, hoperand]

/-- A list of instructions of one meaning. -/
theorem exec_congr_of_mem {l : List Instr} {j : Instr}
    (h : l.map meaning = List.replicate l.length (meaning j)) (s : State) : ∀ i ∈ l, exec i s = exec j s :=
  fun _ hi => exec_congr ((List.eq_replicate_iff.mp h).2 _ (List.mem_map_of_mem hi)) s

/-- Settles O3: any three bytes begin with an encoding, and the rows of R89 differ in the opcode byte only. -/
theorem everyByteDecodes : Obligations.EveryByteDecodes := by
  refine ⟨fun op b1 b2 rest => ?total, fun b w s => ?duplicates⟩
  case total =>
    obtain ⟨hopcode, hrow⟩ := opcode_row op b1 (mkWord b2 b1)
    have hle : operandCount op ≤ 2 := by
      rcases operandCount_cases op with hn | hn | hn <;> simp [hn]
    refine ⟨?_, hrow, hopcode, length_encode_instrOf op b1 _, hle⟩
    exact decode_eq_ok_iff.mpr (encode_instrOf_append_drop op b1 b2 rest).symm
  case duplicates =>
    exact ⟨exec_congr rfl s, exec_congr rfl s, exec_congr_of_mem rfl s, exec_congr_of_mem rfl s,
      exec_congr_of_mem rfl s, exec_congr_of_mem rfl s, exec_congr_of_mem rfl s⟩

/-- Settles O4: the matrix at the seven opcodes. -/
theorem sourcedRows : Obligations.SourcedRows := ⟨rfl, rfl, rfl, rfl, rfl, rfl, rfl, rfl, rfl⟩

end Sys2Proof.Machine
end

section
/-! The step and the addressing modes (40_step_and_addressing.md). Each mode is brought to exact arithmetic on addresses
(R104 to R116); what the fetch does is said once per operand-byte count (R100 steps 3 to 5); and what an instruction
costs is the sum of the base cycles, the resolver's page-cross cycle and the cycle of a branch to another page (R124),
each stated once: what a behaviour adds is shown row by row of `footprints`. -/

namespace Sys2Proof

/-! ## Addresses as numbers -/

theorem zext16_eq_ofNat (b : Byte) : zext16 b = BitVec.ofNat 16 b.toNat := by
  apply BitVec.eq_of_toNat_eq
  have h := b.isLt
  rw [zext16_toNat, BitVec.toNat_ofNat]
  omega

/-- A sum of bytes as an address wraps inside page zero (R106 to R110). -/
theorem zext16_add (a b : Byte) : zext16 (a + b) = BitVec.ofNat 16 ((a.toNat + b.toNat) % 256) := by
  rw [zext16_eq_ofNat, BitVec.toNat_add]

/-- A base address plus an index wraps at 65536 (R112, R113). -/
theorem add_zext16 (base : Word) (index : Byte) :
    base + zext16 index = BitVec.ofNat 16 ((base.toNat + index.toNat) % 65536) := by
  apply BitVec.eq_of_toNat_eq
  rw [BitVec.toNat_add, zext16_toNat, BitVec.toNat_ofNat, Nat.mod_mod]

/-- A byte operand is the low byte of the operand word (30_encoding.md R82). -/
theorem loByte_setWidth (b : Byte) : loByte (b.setWidth 16) = b := loByte_zext16 b

/-- The two masks of R114 take the high byte of one word and the low byte of another. -/
theorem masked_eq_mkWord (v w : Word) : (v &&& 0xFF00) ||| (w &&& 0x00FF) = mkWord (hiByte v) (loByte w) := by
  apply BitVec.eq_of_getLsbD_eq
  intro i hi
  simp only [mkWord, hiByte, loByte, BitVec.getLsbD_append, BitVec.getLsbD_or, BitVec.getLsbD_and,
    BitVec.getLsbD_extractLsb']
  interval_cases i <;> simp

/-- The address of the high byte of an indirect jump's pointer: the page of the low byte (R114). -/
theorem next_in_page (w : Word) :
    (w &&& 0xFF00) ||| ((w + 1) &&& 0x00FF) = BitVec.ofNat 16 (w.toNat / 256 * 256 + (w.toNat + 1) % 256) := by
  have hw := w.isLt
  apply BitVec.eq_of_toNat_eq
  rw [masked_eq_mkWord, mkWord_toNat, hiByte_toNat, loByte_toNat, BitVec.toNat_add, BitVec.toNat_ofNat]
  have hone : (1 : Word).toNat = 1 := rfl
  omega

end Sys2Proof

namespace Sys2Proof.Machine

/-- The stack address is in page one (10_state.md R22). -/
theorem stackAddr_toNat (sp : Byte) : (stackAddr sp).toNat = 0x0100 + sp.toNat := by
  rw [stackAddr, BitVec.toNat_or, zext16_toNat]
  exact (Nat.two_pow_add_eq_or_of_lt (i := 8) sp.isLt 1).symm

/-! ## Addressing modes -/

/-- `indexed` by exact arithmetic (R110, R112, R113, R116). -/
theorem indexed_eq (base : Word) (index : Byte) (s : State) :
    indexed base index s =
      (BitVec.ofNat 16 ((base.toNat + index.toNat) % 65536),
        { s with waitCycles :=
            s.waitCycles + if base.toNat / 256 = (base.toNat + index.toNat) % 65536 / 256 then 0 else 1 }) := by
  rw [indexed_cases, add_zext16, pageCross_iff, BitVec.toNat_ofNat, Nat.mod_mod]
  split <;> simp_all [State.withBus]

/-- `zpPointer` by exact arithmetic: both bytes in page zero (R109, R110). -/
theorem zpPointer_eq (ptr : Byte) (s : State) :
    zpPointer ptr s = s.memRead2 (BitVec.ofNat 16 ptr.toNat) (BitVec.ofNat 16 ((ptr.toNat + 1) % 256)) := by
  rw [zpPointer, zext16_add, zext16_eq_ofNat]
  rfl

/-- Settles O27: the sums of the indexed modes wrap inside page zero. -/
theorem simpleModes : Obligations.SimpleModes := by
  intro arg w b s
  refine ⟨rfl, ?_, ?_, rfl, rfl, rfl, rfl, rfl, rfl, rfl⟩ <;> simp only [resolve, loByte_setWidth, zext16_add]

/-- Settles O28: the sum and the page cross by `indexed_eq`, the base of izy by two reads. -/
theorem indexedModes : Obligations.IndexedModes := by
  intro arg w b s at' lo hi
  refine ⟨indexed_eq w s.x s, indexed_eq w s.y s, ?_⟩
  simp only [resolve, loByte_setWidth, zpPointer, zext16_add, indexed_eq]
  rfl

/-- Settles O29: the pointer's two addresses, by the wrap inside page zero and inside the page. -/
theorem pointerModes : Obligations.PointerModes := by
  intro arg w b s
  constructor
  · simp only [resolve, loByte_setWidth, zpPointer_eq, BitVec.toNat_add]
    rfl
  · simp only [resolve, next_in_page]
    rfl

/-- Settles O30: the sign extension by exact arithmetic. -/
theorem relativeMode : Obligations.RelativeMode := by
  intro arg b s
  simp only [resolve, loByte_setWidth, sext16_eq, BitVec.ofInt_add, BitVec.ofInt_natCast, BitVec.ofNat_toNat,
    BitVec.setWidth_eq]
  rfl

/-! ## The helpers -/

/-- A byte pushed on a RAM stack is popped again (R117, R118). -/
theorem pop8_push8 {s : State} (hinv : s.Inv) (hb : backed s.devices (stackAddr s.sp) = true) (v : Byte) :
    (s.push8 v).pop8.1 = v := by
  have h : (s.push8 v).pop8.1 = (busRead (busWrite s.devices (stackAddr s.sp) v) (stackAddr (s.sp - 1 + 1))).1 := rfl
  rw [h, sub_add_cancel]
  exact busRead_busWrite_backed hinv.1 hb rfl v

/-- Settles O31: the read is at the address of the write, since SP is back where it was. -/
theorem pushPop : Obligations.PushPop := by
  intro s v
  refine ⟨stackAddr_toNat s.sp, ?_, ?_, fun hinv hb => ⟨pop8_push8 hinv hb v, ?_, rfl⟩⟩
  · rw [State.push8_sp, BitVec.toNat_sub]
    simp [Nat.add_comm]
  · rw [State.pop8_sp, BitVec.toNat_add]
    rfl
  · rw [State.pop8_sp, State.push8_sp, sub_add_cancel]

/-- The flags of `compare` (R122). -/
theorem getFlag_compareOf (a b p : Byte) (f : Flag) :
    getFlag f (compareOf a b p) = if f = .C then decide (b ≤ a) else getFlag f (nzOf (a - b) p) := by
  rw [compareOf, getFlag_putFlag]

/-- Settles O32: the flags of `set_nz` and of `compare`, with the difference as a number. -/
theorem flagHelpers : Obligations.FlagHelpers := by
  refine ⟨fun v p f => ⟨?_, ?_, fun hn hz => ?_⟩, fun a b p f => ⟨?_, ?_, ?_, fun hn hz hc => ?_⟩⟩
  · simp [getFlag_nzOf]
  · simp [getFlag_nzOf]
  · simp [getFlag_nzOf, hn, hz]
  · have hsub : (a - b).toNat = (a.toNat + 256 - b.toNat) % 256 := by
      have hb := b.isLt
      rw [BitVec.toNat_sub]
      omega
    simp [getFlag_compareOf, getFlag_nzOf, BitVec.getLsbD, hsub]
  · have hzero : a - b = 0 ↔ a = b := sub_eq_zero
    simpa [getFlag_compareOf, getFlag_nzOf] using hzero
  · simp [getFlag_compareOf, BitVec.le_def]
  · simp [getFlag_compareOf, getFlag_nzOf, hn, hz, hc]

/-! ## The tick -/

/-- With the CPU alone, a wait tick (R100 step 1). -/
theorem step_wait {s : State} (hc : s.cpuAlone) (hw : 0 < s.waitCycles) :
    step s = .next { s with waitCycles := s.waitCycles - 1, tickCount := s.tickCount + 1 } := by
  rw [step_cpuAlone hc, cpuTick_wait (s := { s with tickCount := s.tickCount + 1 }) hw]

/-- The first of several steps, when it completes. -/
theorem run_succ_of_step {s t : State} (h : step s = .next t) (n : Nat) :
    Sys2Proof.core.run (n + 1) s = Sys2Proof.core.run n t := by
  have h' : Sys2Proof.core.step s = .next t := h
  simp only [Host.Core.run, h']

/-- Settles O7: by induction on the number of ticks, the first of which is a wait tick. -/
theorem waitTicks : Obligations.WaitTicks := by
  intro s n hc hn
  induction n generalizing s with
  | zero => rfl
  | succ n ih =>
    have hfirst := step_wait hc (show 0 < s.waitCycles by omega)
    have hrest := ih { s with waitCycles := s.waitCycles - 1, tickCount := s.tickCount + 1 } hc
      (Nat.le_sub_of_add_le hn)
    rw [Nat.sub_sub, Nat.add_assoc, Nat.add_comm 1 n] at hrest
    exact (run_succ_of_step hfirst n).trans hrest

/-! ## The fetch -/

theorem fetchByte_eq (s : State) :
    s.fetchByte =
      ((busRead s.devices s.pc).1, { s with devices := (busRead s.devices s.pc).2, pc := s.pc + 1 }) := rfl

theorem fetch_no_operand {s : State} (h : operandCount s.fetchByte.1 = 0) :
    s.fetch = (instrOf s.fetchByte.1 0 0, s.fetchByte.2) := by
  simp only [State.fetch, h]

theorem fetch_byte_operand {s : State} (h : operandCount s.fetchByte.1 = 1) :
    s.fetch = (instrOf s.fetchByte.1 s.fetchByte.2.fetchByte.1 0, s.fetchByte.2.fetchByte.2) := by
  simp only [State.fetch, h]

theorem fetch_word_operand {s : State} (h : operandCount s.fetchByte.1 = 2) :
    s.fetch = (instrOf s.fetchByte.1 0 (mkWord s.fetchByte.2.fetchByte.2.fetchByte.1 s.fetchByte.2.fetchByte.1),
      s.fetchByte.2.fetchByte.2.fetchByte.2) := by
  simp only [State.fetch, h]

/-- Settles O6: the accesses by the operand-byte count; the bytes an opcode does not take stand for nothing. -/
theorem fetchAccesses : Obligations.FetchAccesses := by
  intro s hr hc op lo hi seen
  rw [step_ready hr hc, instructionTick]
  have hop : ({ s with tickCount := s.tickCount + 1 } : State).fetchByte.1 = op.1 := rfl
  obtain ⟨unused0, unused1, unused2⟩ := instrOf_unused op.1 lo.1 (mkWord hi.1 lo.1)
  rcases operandCount_cases op.1 with hn | hn | hn
  · rw [fetch_no_operand (hop ▸ hn), unused0 hn]
    simp [seen, hn, fetchByte_eq, op]
  · rw [fetch_byte_operand (hop ▸ hn), unused1 hn]
    simp [seen, hn, fetchByte_eq, op, lo]
  · rw [fetch_word_operand (hop ▸ hn), unused2 hn]
    simp [seen, hn, fetchByte_eq, op, lo, hi, BitVec.add_assoc]

/-- Settles O5: on a plain bus the reads leave the devices, and any three bytes decode to what the fetch makes of
them. -/
theorem stepRunsDecoded : Obligations.StepRunsDecoded := by
  intro s i rest hr hc hp hd
  have hread : ∀ a, (busRead s.devices a).2 = s.devices := busRead_plain hp
  obtain ⟨hdecode, hrow, -⟩ := everyByteDecodes.1 (s.peek s.pc) (s.peek (s.pc + 1)) (s.peek (s.pc + 2)) []
  obtain ⟨rfl, -⟩ := Prod.mk.inj (Except.ok.inj (hdecode.symm.trans hd))
  have hcount : operandCount (s.peek s.pc) = (instrOf (s.peek s.pc) (s.peek (s.pc + 1))
    (mkWord (s.peek (s.pc + 2)) (s.peek (s.pc + 1)))).row.mode.operandBytes := by rw [hrow]; rfl
  rw [fetchAccesses s hr hc, ← hcount]
  simp only [hread]
  split <;> rfl

/-! ## The cost of an instruction -/

/-- Whether the resolver charges a page cross: in abx, aby and izy, between the base and the base plus the index (R110,
R112, R113, R116). -/
def indexCrossed (i : Instr) (s : State) : Bool :=
  match i.row.mode with
  | .abx => pageCross i.operand (i.operand + zext16 s.x)
  | .aby => pageCross i.operand (i.operand + zext16 s.y)
  | .izy => pageCross ((addressed i s).1 - zext16 s.y) (addressed i s).1
  | _ => false

/-- What the resolver charges (R116). -/
theorem addressed_waitCycles (i : Instr) (s : State) :
    (addressed i s).2.waitCycles = s.waitCycles + bit (indexCrossed i s) := by
  cases hm : i.row.mode
  case abx | aby => simp only [indexCrossed, addressed, hm, resolve, indexed_cases]; rfl
  case izy => simp only [indexCrossed, addressed, hm, resolve, indexed_cases, add_sub_cancel_right]; rfl
  all_goals simp only [indexCrossed, addressed, hm, resolve]; rfl

/-- The mnemonics of the branches (45_control_flow.md R215 to R222). -/
def branches : List String := ["BPL", "BMI", "BVC", "BVS", "BCC", "BCS", "BNE", "BEQ"]

/-- The mode rel is the branches'. -/
theorem mode_rel (i : Instr) : (i.row.mode == .rel) = decide (i.row.mnemonic ∈ branches) := by
  cases i <;> rfl

theorem cycles_le (i : Instr) : i.row.cycles ≤ 8 := by
  cases i <;> exact Nat.le_of_ble_eq_true rfl

/-- Between `s` and `t` the behaviour of a mnemonic adds one cycle if it is a branch that leaves the page, else none
(45_control_flow.md R214). -/
def Charges (m : String) (s t : State) : Prop :=
  t.waitCycles = s.waitCycles + bit (decide (m ∈ branches) && pageCross s.pc t.pc)

/-- A behaviour that adds no cycle. -/
def KeepsWait (f : Word → State → State) : Prop := ∀ ea s, (f ea s).waitCycles = s.waitCycles

theorem KeepsWait.comp {f g : Word → State → State} (hg : KeepsWait g) (hf : KeepsWait f) :
    KeepsWait fun ea s => g ea (f ea s) := fun ea s => (hg ea (f ea s)).trans (hf ea s)

theorem KeepsWait.charges {m : String} {f : Word → State → State} (h : KeepsWait f) (hm : m ∉ branches := by decide)
    (ea : Word) (s : State) : Charges m s (f ea s) := by
  simp [Charges, hm, h ea s, bit]

/-- A branch: the page PC leaves is that of the target, if it is taken at all. -/
theorem branchIf_charges {m : String} (cond : State → Bool) (hm : m ∈ branches := by decide) (ea : Word) (s : State) :
    Charges m s (branchIf (cond s) ea s) := by
  simp only [Charges, hm, branchIf, decide_true, Bool.true_and]
  cases cond s
  · simp [bit, pageCross]
  · cases h : pageCross s.pc ea <;> simp [bit, h]

theorem shiftMem_keepsWait (f : Shift) : KeepsWait (shiftMem f) := fun _ _ => rfl

theorem stepMem_keepsWait (f : Byte → Byte) : KeepsWait (stepMem f) := by
  intro ea s
  simp only [stepMem]
  split <;> rfl

/-! The second halves of SLO to ISC (47_undocumented.md R260 to R265). -/

theorem oraOp_keepsWait : KeepsWait oraOp := fun _ _ => rfl
theorem andOp_keepsWait : KeepsWait andOp := fun _ _ => rfl
theorem eorOp_keepsWait : KeepsWait eorOp := fun _ _ => rfl
theorem adcOp_keepsWait : KeepsWait adcOp := fun _ _ => rfl
theorem sbcOp_keepsWait : KeepsWait sbcOp := fun _ _ => rfl
theorem cmpOp_keepsWait : KeepsWait cmpOp := fun _ _ => rfl

/-- What each behaviour charges. -/
theorem footprints_charge : ∀ e ∈ footprints, ∀ ea s, Charges e.1 s (e.2.1 ea s) := by
  simp only [footprints, List.forall_mem_cons]
  exact ⟨
    -- LDA to LDY, STA to STY
    KeepsWait.charges fun _ _ => rfl, KeepsWait.charges fun _ _ => rfl, KeepsWait.charges fun _ _ => rfl,
    KeepsWait.charges fun _ _ => rfl, KeepsWait.charges fun _ _ => rfl, KeepsWait.charges fun _ _ => rfl,
    -- TAX to TXS
    KeepsWait.charges fun _ _ => rfl, KeepsWait.charges fun _ _ => rfl, KeepsWait.charges fun _ _ => rfl,
    KeepsWait.charges fun _ _ => rfl, KeepsWait.charges fun _ _ => rfl, KeepsWait.charges fun _ _ => rfl,
    -- ADC to BIT
    adcOp_keepsWait.charges, sbcOp_keepsWait.charges, andOp_keepsWait.charges, oraOp_keepsWait.charges,
    eorOp_keepsWait.charges, KeepsWait.charges fun _ _ => rfl,
    -- the shifts of A, then of memory; INC and DEC
    KeepsWait.charges fun _ _ => rfl, KeepsWait.charges fun _ _ => rfl, KeepsWait.charges fun _ _ => rfl,
    KeepsWait.charges fun _ _ => rfl, (shiftMem_keepsWait aslOf).charges, (shiftMem_keepsWait lsrOf).charges,
    (shiftMem_keepsWait rolOf).charges, (shiftMem_keepsWait rorOf).charges, (stepMem_keepsWait (· + 1)).charges,
    (stepMem_keepsWait (· - 1)).charges,
    -- INX to DEY, the compares
    KeepsWait.charges fun _ _ => rfl, KeepsWait.charges fun _ _ => rfl, KeepsWait.charges fun _ _ => rfl,
    KeepsWait.charges fun _ _ => rfl, cmpOp_keepsWait.charges, KeepsWait.charges fun _ _ => rfl,
    KeepsWait.charges fun _ _ => rfl,
    -- JMP, JSR, RTS, RTI
    KeepsWait.charges fun _ _ => rfl, KeepsWait.charges fun _ s => s.push16_waitCycles (s.pc - 1),
    KeepsWait.charges fun _ s => s.pop16_waitCycles, KeepsWait.charges fun _ s => s.returnFromHandler_waitCycles,
    -- the branches
    branchIf_charges _, branchIf_charges _, branchIf_charges _, branchIf_charges _, branchIf_charges _,
    branchIf_charges _, branchIf_charges _, branchIf_charges _,
    -- BRK, NOP
    KeepsWait.charges fun _ s => s.enterHandler_waitCycles _ _ _, KeepsWait.charges fun _ _ => rfl,
    -- the flag instructions
    KeepsWait.charges fun _ _ => rfl, KeepsWait.charges fun _ _ => rfl, KeepsWait.charges fun _ _ => rfl,
    KeepsWait.charges fun _ _ => rfl, KeepsWait.charges fun _ _ => rfl, KeepsWait.charges fun _ _ => rfl,
    KeepsWait.charges fun _ _ => rfl,
    -- PHA, PLA, PHP, PLP
    KeepsWait.charges fun _ _ => rfl, KeepsWait.charges fun _ _ => rfl, KeepsWait.charges fun _ _ => rfl,
    KeepsWait.charges fun _ _ => rfl,
    -- SLO to ISC: the memory behaviour, then that of A
    (oraOp_keepsWait.comp (shiftMem_keepsWait aslOf)).charges,
    (andOp_keepsWait.comp (shiftMem_keepsWait rolOf)).charges,
    (eorOp_keepsWait.comp (shiftMem_keepsWait lsrOf)).charges,
    (adcOp_keepsWait.comp (shiftMem_keepsWait rorOf)).charges,
    (cmpOp_keepsWait.comp (stepMem_keepsWait (· - 1))).charges,
    (sbcOp_keepsWait.comp (stepMem_keepsWait (· + 1))).charges,
    -- SAX, LAX, ANC to AXS, SHY, SHX
    KeepsWait.charges fun _ _ => rfl, KeepsWait.charges fun _ _ => rfl, KeepsWait.charges fun _ _ => rfl,
    KeepsWait.charges fun _ _ => rfl, KeepsWait.charges fun _ _ => rfl, KeepsWait.charges fun _ _ => rfl,
    KeepsWait.charges fun _ _ => rfl, KeepsWait.charges fun _ _ => rfl,
    List.forall_mem_nil _⟩

/-- What an instruction costs (R124): the resolver's page cross, the taken branch, and the base cycles of its row. -/
theorem exec_waitCycles {i : Instr} {s t : State} (h : exec i s = .next t) :
    t.waitCycles = s.waitCycles + bit (indexCrossed i s) +
      bit (decide (i.row.mnemonic ∈ branches) && pageCross s.pc t.pc) + i.row.cycles := by
  obtain ⟨f, hf, rfl⟩ := exec_next h
  rw [behaviourOf_eq_find, Option.map_eq_some_iff] at hf
  obtain ⟨e, he, rfl⟩ := hf
  have hm : e.1 = i.row.mnemonic := by simpa using List.find?_some he
  have hcharge := footprints_charge e (List.mem_of_find?_eq_some he) (addressed i s).1 (addressed i s).2
  rw [Charges, addressed_waitCycles, addressed_pc, hm] at hcharge
  rw [State.addWait_waitCycles, hcharge, State.addWait_pc]

/-- Settles O18: the three parts of the cost; an indexed mode is not that of a branch. -/
theorem cycleCost : Obligations.CycleCost := by
  intro i s t h crossed branched
  have hcrossed : crossed = indexCrossed i s := by
    cases hm : i.row.mode <;> simp [crossed, indexCrossed, hm, pageCross_iff, zext16]
  have hbranched : branched = (decide (i.row.mnemonic ∈ branches) && pageCross s.pc t.pc) := by
    rw [← mode_rel, pageCross_iff]
  have hcost := exec_waitCycles h
  rw [← hcrossed, ← hbranched] at hcost
  have hone : bit crossed + bit branched ≤ 1 := by
    by_cases hrel : i.row.mode = .rel
    · have hnone : crossed = false := by simp [hcrossed, indexCrossed, hrel]
      cases branched <;> simp [hnone, bit]
    · have hnone : branched = false := by simp [branched, hrel]
      cases crossed <;> simp [hnone, bit]
  have hbase := cycles_le i
  exact ⟨by omega, hone, by omega⟩

end Sys2Proof.Machine
end

section
/-! Loads, stores and register transfers (41_load_store_transfer.md R130 to R141), with LAX and SAX (47_undocumented.md
R266, R267). The rows of one mnemonic have one behaviour, so `exec` of each is that behaviour from the resolved state
and then the base cycles (`exec_of_forms`). What a behaviour makes of any state is said once; the registers it reads
are those the instruction started with (`addressed_a` to `addressed_p`). -/

namespace Sys2Proof.Machine

/-- A list of instructions of one behaviour: each resolves, runs it and charges its base cycles (R100 steps 6 to 8). -/
theorem exec_of_forms (f : Word → State → State) {l : List Instr}
    (h : l.map behaviourOf = List.replicate l.length (some f)) (s : State) :
    ∀ i ∈ l, exec i s = .next ((f (addressed i s).1 (addressed i s).2).addWait i.row.cycles) := by
  intro i hi
  have hf : behaviourOf i = some f := (List.eq_replicate_iff.mp h).2 _ (List.mem_map_of_mem hi)
  rw [exec_eq, hf]
  rfl

/-! ## The behaviours, field by field -/

theorem ldaOp_eq (ea : Word) (s : State) :
    ldaOp ea s = { s with
      devices := (busRead s.devices ea).2, a := (busRead s.devices ea).1
      p := nzOf (busRead s.devices ea).1 s.p } := rfl

theorem ldxOp_eq (ea : Word) (s : State) :
    ldxOp ea s = { s with
      devices := (busRead s.devices ea).2, x := (busRead s.devices ea).1
      p := nzOf (busRead s.devices ea).1 s.p } := rfl

theorem ldyOp_eq (ea : Word) (s : State) :
    ldyOp ea s = { s with
      devices := (busRead s.devices ea).2, y := (busRead s.devices ea).1
      p := nzOf (busRead s.devices ea).1 s.p } := rfl

theorem State.memWrite_eq (s : State) (ea : Word) (v : Byte) :
    s.memWrite ea v = { s with devices := busWrite s.devices ea v } := rfl

/-- Of two `set_nz` in a row the second stands (40_step_and_addressing.md R121). -/
theorem nzOf_nzOf (v u p : Byte) : nzOf v (nzOf u p) = nzOf v p :=
  status_ext fun f => by simp only [getFlag_nzOf]; split_ifs <;> rfl

/-! ## The obligations -/

/-- Settles O33: one read after resolution; in LAX a second, from the devices as the first left them, and of the two
flag settings only the second stays. -/
theorem loads : Obligations.Loads := by
  intro b w s
  refine ⟨fun i hi => ?lda, fun i hi => ?ldx, fun i hi => ?ldy, fun i hi => ?lax⟩
  case lda => simp only [exec_of_forms ldaOp rfl s i hi, ldaOp_eq, State.addWait, addressed_p]
  case ldx => simp only [exec_of_forms ldxOp rfl s i hi, ldxOp_eq, State.addWait, addressed_p]
  case ldy => simp only [exec_of_forms ldyOp rfl s i hi, ldyOp_eq, State.addWait, addressed_p]
  case lax =>
    simp only [exec_of_forms laxOp rfl s i hi, laxOp, ldaOp_eq, ldxOp_eq, nzOf_nzOf, State.addWait, addressed_p]

/-- Settles O34: one write after resolution, of registers the resolver left as they were. -/
theorem stores : Obligations.Stores := by
  intro b w s
  refine ⟨fun i hi => ?sta, fun i hi => ?stx, fun i hi => ?sty, fun i hi => ?sax⟩
  case sta => simp only [exec_of_forms staOp rfl s i hi, staOp, State.memWrite_eq, State.addWait, addressed_a]
  case stx => simp only [exec_of_forms stxOp rfl s i hi, stxOp, State.memWrite_eq, State.addWait, addressed_x]
  case sty => simp only [exec_of_forms styOp rfl s i hi, styOp, State.memWrite_eq, State.addWait, addressed_y]
  case sax =>
    simp only [exec_of_forms saxOp rfl s i hi, saxOp, State.memWrite_eq, State.addWait, addressed_a, addressed_x]

/-- Settles O35: mode none resolves to the same state, so the behaviour of the row and its two cycles are all. -/
theorem transfers : Obligations.Transfers := fun _ =>
  ⟨⟨rfl, rfl⟩, ⟨rfl, rfl⟩, ⟨rfl, rfl⟩, ⟨rfl, rfl⟩, ⟨rfl, rfl⟩, ⟨rfl, rfl⟩⟩

end Sys2Proof.Machine
end

section
/-! Add and subtract with carry (42_arithmetic.md R150 to R158). The sign bit turns the overflow formulas into
statements about numbers; subtraction is addition of the complemented operand, so its flags are those of that addition;
and each decimal fix-up takes a two-digit sum or difference to its quotient and remainder by ten. -/

namespace Sys2Proof.Machine

/-! ## Bytes as numbers -/

theorem bit_le_one (c : Bool) : bit c ≤ 1 := by cases c <;> decide

theorem bit_not (c : Bool) : bit (!c) = 1 - bit c := by cases c <;> rfl

/-- Only bit 7 counts in the overflow formulas (R151, R156). -/
theorem and_0x80_ne_zero (x : Byte) : ((x &&& 0x80) != 0) = x.msb := by
  have h : x &&& 0x80 = BitVec.twoPow 8 7 &&& x := BitVec.and_comm ..
  rw [h, BitVec.twoPow_and, BitVec.msb_eq_getLsbD_last]
  cases x.getLsbD 7 <;> rfl

/-- R151: the operands have one sign and the sum the other. -/
theorem addOverflow_iff (a m t : Byte) :
    addOverflow a m t = true ↔ (128 ≤ a.toNat ↔ 128 ≤ m.toNat) ∧ ¬(128 ≤ a.toNat ↔ 128 ≤ t.toNat) := by
  rw [addOverflow, and_0x80_ne_zero, BitVec.msb_and, BitVec.msb_not, BitVec.msb_xor, BitVec.msb_xor]
  simp [BitVec.msb_eq_decide]

/-- The complemented operand of R156. -/
theorem xor_0xFF (m : Byte) : m ^^^ 0xFF = ~~~m := BitVec.xor_allOnes

theorem complement_toNat (m : Byte) : (m ^^^ 0xFF).toNat = 255 - m.toNat := by
  rw [xor_0xFF, BitVec.toNat_not]

theorem complement_toInt (m : Byte) : (m ^^^ 0xFF).toInt = -m.toInt - 1 := by
  have hm := m.isLt
  rw [BitVec.toInt_eq_toNat_cond, BitVec.toInt_eq_toNat_cond, complement_toNat]
  split <;> split <;> omega

theorem Alu.eq_of_fields {o d : Alu} (hr : o.r = d.r) (hn : o.n = d.n) (hv : o.v = d.v) (hz : o.z = d.z)
    (hc : o.c = d.c) : o = d := by
  cases o
  cases d
  exact Alu.mk.injEq .. ▸ ⟨hr, hn, hv, hz, hc⟩

/-! ## The binary path -/

theorem adcBinary_r_toNat (a m : Byte) (c : Bool) :
    (adcBinary a m c).r.toNat = (a.toNat + m.toNat + bit c) % 256 := rfl

theorem sbcBinary_r_toNat (a m : Byte) (c : Bool) :
    ((sbcBinary a m c).r.toNat : Int) = ((a.toNat : Int) - m.toNat - (1 - bit c)) % 256 := by
  simp only [sbcBinary, BitVec.toNat_ofInt]
  omega

/-- Signed overflow of the addition (R151). -/
theorem adcBinary_v_iff (a m : Byte) (c : Bool) :
    (adcBinary a m c).v = true ↔ a.toInt + m.toInt + bit c < -128 ∨ a.toInt + m.toInt + bit c > 127 := by
  have ha := a.isLt
  have hm := m.isLt
  have hc := bit_le_one c
  have hv : (adcBinary a m c).v = addOverflow a m (adcBinary a m c).r := rfl
  rw [hv, addOverflow_iff, adcBinary_r_toNat, BitVec.toInt_eq_toNat_cond, BitVec.toInt_eq_toNat_cond]
  split <;> split <;> omega

/-- The overflow formula of SBC is that of ADC on the complemented operand. -/
theorem subOverflow_eq_addOverflow (a m r : Byte) : subOverflow a m r = addOverflow a (m ^^^ 0xFF) r := by
  have h : ~~~(a ^^^ (m ^^^ 0xFF)) = a ^^^ m := by
    rw [← BitVec.xor_assoc, xor_0xFF, BitVec.not_not]
  rw [addOverflow, h, subOverflow]

/-- `A - M - (1 - C) = A + (255 - M) + C - 256` (R156). -/
theorem sbcBinary_eq_adcBinary (a m : Byte) (c : Bool) : sbcBinary a m c = adcBinary a (m ^^^ 0xFF) c := by
  have hm := m.isLt
  have hr : (sbcBinary a m c).r = (adcBinary a (m ^^^ 0xFF) c).r := by
    apply BitVec.eq_of_toNat_eq
    have h := sbcBinary_r_toNat a m c
    rw [adcBinary_r_toNat, complement_toNat]
    omega
  have hv : (sbcBinary a m c).v = (adcBinary a (m ^^^ 0xFF) c).v :=
    (subOverflow_eq_addOverflow a m _).trans (congrArg (addOverflow a (m ^^^ 0xFF)) hr)
  have hc : (sbcBinary a m c).c = (adcBinary a (m ^^^ 0xFF) c).c := by
    simp only [sbcBinary, adcBinary, complement_toNat, decide_eq_decide]
    omega
  exact Alu.eq_of_fields hr (congrArg (BitVec.getLsbD · 7) hr) hv (congrArg (· == 0) hr) hc

/-- Subtracting what was added gives the accumulator back (R158 item 8). -/
theorem sbcBinary_adcBinary_r (a m : Byte) (c : Bool) : (sbcBinary (adcBinary a m c).r m (!c)).r = a := by
  apply BitVec.eq_of_toNat_eq
  have ha := a.isLt
  have hc := bit_le_one c
  have h := sbcBinary_r_toNat (adcBinary a m c).r m (!c)
  rw [adcBinary_r_toNat, bit_not] at h
  omega

/-! ## The decimal path -/

/-- The low-digit fix-up of R152 carries exactly one ten. -/
theorem lowSum_fixup {l : Nat} (hl : l ≤ 19) :
    (if l ≥ 0x0A then (l + 0x06) % 16 + 0x10 else l) = l / 10 * 16 + l % 10 := by
  split <;> omega

/-- The high-digit fix-up of R152 carries exactly one hundred. -/
theorem highSum_fixup {h l : Nat} (hh : h ≤ 19) (hl : l ≤ 9) :
    (if h * 16 + l ≥ 0xA0 then h * 16 + l + 0x60 else h * 16 + l) = h / 10 * 256 + h % 10 * 16 + l := by
  split <;> omega

/-- The low-digit fix-up of R157 borrows exactly one ten. -/
theorem lowDifference_fixup {l : Int} (hlow : -10 ≤ l) (hhigh : l ≤ 9) :
    (if l < 0 then (l - 0x06) % 16 - 0x10 else l) = l / 10 * 16 + l % 10 := by
  split <;> omega

/-- The high-digit fix-up of R157 borrows exactly one hundred. -/
theorem highDifference_fixup {h l : Int} (hlow : -10 ≤ h) (hhigh : h ≤ 9) (hl : 0 ≤ l) (hl' : l ≤ 9) :
    (if h * 16 + l < 0 then h * 16 + l - 0x60 else h * 16 + l) = h / 10 * 256 + h % 10 * 16 + l := by
  split <;> omega

/-- Decimal addition digit by digit: `l` is the sum of the low digits and the carry, `h` that of the high digits and of
the ten `l` carries. -/
theorem adcDecimal_digits {a m : Byte} {c : Bool} {l h : Nat} (hl : a.toNat % 16 + m.toNat % 16 + bit c = l)
    (hh : a.toNat / 16 + m.toNat / 16 + l / 10 = h) (hl' : l ≤ 19) (hh' : h ≤ 19) :
    (adcDecimal a m c).r.toNat = h % 10 * 16 + l % 10 ∧ ((adcDecimal a m c).c = true ↔ 10 ≤ h) := by
  have ht : a.toNat / 16 * 16 + m.toNat / 16 * 16 + (l / 10 * 16 + l % 10) = h * 16 + l % 10 := by omega
  have hl9 : l % 10 ≤ 9 := by omega
  simp only [adcDecimal, hl, lowSum_fixup hl', ht, highSum_fixup hh' hl9, BitVec.toNat_ofNat, decide_eq_true_eq]
  have hten : 10 ≤ h ↔ 1 ≤ h / 10 := by omega
  omega

/-- Decimal subtraction digit by digit: `l` is the difference of the low digits less the borrow, `h` that of the high
digits less the ten `l` borrows. -/
theorem sbcDecimal_digits {a m : Byte} {c : Bool} {l h : Int}
    (hl : ((a.toNat % 16 : Nat) : Int) - (m.toNat % 16 : Nat) + bit c - 1 = l)
    (hh : ((a.toNat / 16 : Nat) : Int) - (m.toNat / 16 : Nat) + l / 10 = h)
    (hlow : -10 ≤ l) (hhigh : l ≤ 9) (hlow' : -10 ≤ h) (hhigh' : h ≤ 9) :
    ((sbcDecimal a m c).r.toNat : Int) = h % 10 * 16 + l % 10 := by
  have ht : ((a.toNat / 16 * 16 : Nat) : Int) - (m.toNat / 16 * 16 : Nat) + (l / 10 * 16 + l % 10) =
      h * 16 + l % 10 := by omega
  have hl0 : 0 ≤ l % 10 := by omega
  have hl9 : l % 10 ≤ 9 := by omega
  simp only [sbcDecimal, sbcDecimalResult, hl, lowDifference_fixup hlow hhigh, ht,
    highDifference_fixup hlow' hhigh' hl0 hl9, BitVec.toNat_ofInt]
  omega

/-! ## The behaviours, field by field -/

/-- The host setting that forces the binary path is the one the instruction started with. -/
@[simp] theorem addressed_decimalDisabled (i : Instr) (s : State) :
    (addressed i s).2.decimalDisabled = s.decimalDisabled := (addressed_touches i s).decimalDisabled

theorem adcOp_eq (ea : Word) (s : State) :
    adcOp ea s =
      let m := busRead s.devices ea
      let o := if getFlag .D s.p && !s.decimalDisabled then adcDecimal s.a m.1 (getFlag .C s.p)
        else adcBinary s.a m.1 (getFlag .C s.p)
      { s with devices := m.2, a := o.r, p := o.flags s.p } := rfl

theorem sbcOp_eq (ea : Word) (s : State) :
    sbcOp ea s =
      let m := busRead s.devices ea
      let o := if getFlag .D s.p && !s.decimalDisabled then sbcDecimal s.a m.1 (getFlag .C s.p)
        else sbcBinary s.a m.1 (getFlag .C s.p)
      { s with devices := m.2, a := o.r, p := o.flags s.p } := rfl

/-! ## The obligations -/

/-- Settles O37: the sum as a number, and the overflow formula by signs. -/
theorem binaryAdd : Obligations.BinaryAdd := by
  intro a m c
  refine ⟨adcBinary_r_toNat a m c, decide_eq_true_iff, beq_iff_eq, ?_, adcBinary_v_iff a m c⟩
  have hn : (adcBinary a m c).n = (adcBinary a m c).r.msb := (BitVec.msb_eq_getLsbD_last _).symm
  rw [hn, BitVec.msb_eq_decide, decide_eq_true_iff]

/-- Settles O38: overflow is that of adding the complement, whose signed value is `-M - 1`. -/
theorem binarySubtract : Obligations.BinarySubtract := by
  intro a m c
  refine ⟨sbcBinary_r_toNat a m c, decide_eq_true_iff, ?_, sbcBinary_eq_adcBinary a m c,
    sbcBinary_adcBinary_r a m c⟩
  rw [sbcBinary_eq_adcBinary, adcBinary_v_iff, complement_toInt]
  omega

/-- Settles O39: the sums of the digits, brought to one decimal sum. -/
theorem decimalAdd : Obligations.DecimalAdd := by
  intro a m c hah hal hmh hml
  have hc := bit_le_one c
  obtain ⟨hr, hcarry⟩ := adcDecimal_digits (a := a) (m := m) (c := c) rfl rfl (by omega) (by omega)
  refine ⟨?_, ?_, ?_, hcarry.trans ?_, decide_eq_true_iff⟩ <;> omega

/-- Settles O40: the flags are those of the binary path by definition; the differences of the digits, brought to one
decimal difference. -/
theorem decimalSubtract : Obligations.DecimalSubtract := by
  intro a m c
  refine ⟨⟨rfl, rfl, rfl, rfl⟩, fun hah hal hmh hml => ?_⟩
  have hc := bit_le_one c
  have hr := sbcDecimal_digits (a := a) (m := m) (c := c) rfl rfl (by omega) (by omega) (by omega) (by omega)
  refine ⟨?_, ?_, ?_⟩ <;> omega

/-- Settles O36: one behaviour for all rows of a mnemonic, which reads the registers, P and the host setting the
resolver left as they were. -/
theorem addSubtract : Obligations.AddSubtract := by
  intro b w s decimal
  refine ⟨fun i hi => ?adc, fun i hi => ?sbc⟩
  case adc =>
    simp only [exec_of_forms adcOp rfl s i hi, adcOp_eq, State.addWait, addressed_a, addressed_p,
      addressed_decimalDisabled, decimal]
  case sbc =>
    simp only [exec_of_forms sbcOp rfl s i hi, sbcOp_eq, State.addWait, addressed_a, addressed_p,
      addressed_decimalDisabled, decimal]

end Sys2Proof.Machine
end

section
/-! Logic, bit test, shifts and rotates (43_logic_shift.md R170 to R182). The four shifts differ in the byte function
only, so the accumulator form and the memory form are each said once for any of them. -/

namespace Sys2Proof.Machine

/-! ## The behaviours, field by field -/

theorem andOp_eq (ea : Word) (s : State) :
    andOp ea s =
      let m := busRead s.devices ea
      { s with devices := m.2, a := s.a &&& m.1, p := nzOf (s.a &&& m.1) s.p } := rfl

theorem oraOp_eq (ea : Word) (s : State) :
    oraOp ea s =
      let m := busRead s.devices ea
      { s with devices := m.2, a := s.a ||| m.1, p := nzOf (s.a ||| m.1) s.p } := rfl

theorem eorOp_eq (ea : Word) (s : State) :
    eorOp ea s =
      let m := busRead s.devices ea
      { s with devices := m.2, a := s.a ^^^ m.1, p := nzOf (s.a ^^^ m.1) s.p } := rfl

theorem bitOp_eq (ea : Word) (s : State) :
    bitOp ea s =
      let m := busRead s.devices ea
      { s with
        devices := m.2
        p := putFlag .V (m.1.getLsbD 6) (putFlag .N (m.1.getLsbD 7) (putFlag .Z (s.a &&& m.1 == 0) s.p)) } := rfl

theorem shiftA_eq (f : Shift) (s : State) :
    shiftA f s =
      let r := f (getFlag .C s.p) s.a
      { s with a := r.1, p := nzOf r.1 (putFlag .C r.2 s.p) } := rfl

/-- The read-back of R178 sees the devices as the write left them. -/
theorem shiftMem_eq (f : Shift) (ea : Word) (s : State) :
    shiftMem f ea s =
      let m := busRead s.devices ea
      let r := f (getFlag .C s.p) m.1
      let v := busRead (busWrite m.2 ea r.1) ea
      { s with devices := v.2, p := nzOf v.1 (putFlag .C r.2 s.p) } := rfl

/-! ## The shifts as instructions -/

/-- A two-cycle instruction of mode none that shifts the accumulator (R174 to R177). -/
theorem exec_shiftA {i : Instr} (f : Shift) (hb : behaviourOf i = some fun _ => shiftA f)
    (hm : i.row.mode = .none) (hc : i.row.cycles = 2) (s : State) :
    exec i s =
      let r := f (getFlag .C s.p) s.a
      .next { s with a := r.1, p := nzOf r.1 (putFlag .C r.2 s.p), waitCycles := s.waitCycles + 2 } := by
  have haddr : addressed i s = (0, s) := by rw [addressed, hm, resolve]
  rw [exec_eq, hb]
  simp only [instrTick, haddr, hc, shiftA_eq, State.addWait]

/-- The forms of one shift of memory (R178): the carry in is the one the instruction started with. -/
theorem exec_shiftMem (f : Shift) {l : List Instr}
    (h : l.map behaviourOf = List.replicate l.length (some (shiftMem f))) (s : State) :
    ∀ i ∈ l, exec i s =
      let r := addressed i s
      let m := busRead r.2.devices r.1
      let o := f (getFlag .C s.p) m.1
      let v := busRead (busWrite m.2 r.1 o.1) r.1
      .next { r.2 with
        devices := v.2, p := nzOf v.1 (putFlag .C o.2 s.p), waitCycles := r.2.waitCycles + i.row.cycles } := by
  intro i hi
  simp only [exec_of_forms (shiftMem f) h s i hi, shiftMem_eq, State.addWait, addressed_p]

/-! ## The obligations -/

/-- Settles O41: one read after resolution, combined with the accumulator and P the resolver left as they were. -/
theorem logic : Obligations.Logic := by
  intro b w s
  refine ⟨fun i hi => ?and, fun i hi => ?ora, fun i hi => ?eor, fun i hi => ?bit⟩
  case and => simp only [exec_of_forms andOp rfl s i hi, andOp_eq, State.addWait, addressed_a, addressed_p]
  case ora => simp only [exec_of_forms oraOp rfl s i hi, oraOp_eq, State.addWait, addressed_a, addressed_p]
  case eor => simp only [exec_of_forms eorOp rfl s i hi, eorOp_eq, State.addWait, addressed_a, addressed_p]
  case bit => simp only [exec_of_forms bitOp rfl s i hi, bitOp_eq, State.addWait, addressed_a, addressed_p]

/-- Settles O42: the accumulator form at each of the four shifts. -/
theorem accumulatorShifts : Obligations.AccumulatorShifts := fun s =>
  ⟨⟨rfl, exec_shiftA aslOf rfl rfl rfl s⟩, ⟨rfl, exec_shiftA lsrOf rfl rfl rfl s⟩,
    ⟨rfl, exec_shiftA rolOf rfl rfl rfl s⟩, ⟨rfl, exec_shiftA rorOf rfl rfl rfl s⟩⟩

/-- Settles O43: the memory form at each of the four shifts. -/
theorem memoryShifts : Obligations.MemoryShifts := fun _ _ s =>
  ⟨exec_shiftMem aslOf rfl s, exec_shiftMem lsrOf rfl s, exec_shiftMem rolOf rfl s, exec_shiftMem rorOf rfl s⟩

end Sys2Proof.Machine
end

section
/-! Increments, decrements and compares (44_incdec_compare.md R190 to R198). INC and DEC differ in the byte function
only, and CMP, CPX and CPY in the register only, so each group is said once, of the behaviour and of its forms. -/

namespace Sys2Proof.Machine

/-! ## The behaviours, field by field -/

/-- With the parameter at `computed`, two accesses, and N and Z from the byte written (92_eei_decisions.md D11). -/
theorem stepMem_computed (f : Byte → Byte) (ea : Word) {s : State} (h : s.params.incdecNz = .computed) :
    stepMem f ea s =
      let m := busRead s.devices ea
      { s with devices := busWrite m.2 ea (f m.1), p := nzOf (f m.1) s.p } := by
  rw [stepMem, h]
  rfl

/-- With the parameter at `readback`, a third access, which sees the devices as the write left them, and N and Z from
the byte it reads (92_eei_decisions.md D11). -/
theorem stepMem_readback (f : Byte → Byte) (ea : Word) {s : State} (h : s.params.incdecNz = .readback) :
    stepMem f ea s =
      let m := busRead s.devices ea
      let v := busRead (busWrite m.2 ea (f m.1)) ea
      { s with devices := v.2, p := nzOf v.1 s.p } := by
  rw [stepMem, h]
  rfl

theorem compareAt_eq (reg : Byte) (ea : Word) (s : State) :
    compareAt reg ea s =
      let m := busRead s.devices ea
      { s with devices := m.2, p := compareOf reg m.1 s.p } := rfl

/-! ## The groups as instructions -/

/-- The parameters are those the instruction started with. -/
@[simp] theorem addressed_params (i : Instr) (s : State) : (addressed i s).2.params = s.params :=
  (addressed_touches i s).params

/-- The forms of one step of a byte in memory (R190, R191), under both values of the parameter. -/
theorem exec_stepMem (f : Byte → Byte) {l : List Instr}
    (h : l.map behaviourOf = List.replicate l.length (some (stepMem f))) (s : State) :
    ∀ i ∈ l,
      let r := addressed i s
      let m := busRead r.2.devices r.1
      let d := busWrite m.2 r.1 (f m.1)
      let v := busRead d r.1
      (s.params.incdecNz = .computed → exec i s = .next { r.2 with
        devices := d, p := nzOf (f m.1) s.p, waitCycles := r.2.waitCycles + i.row.cycles }) ∧
      (s.params.incdecNz = .readback → exec i s = .next { r.2 with
        devices := v.2, p := nzOf v.1 s.p, waitCycles := r.2.waitCycles + i.row.cycles }) := by
  intro i hi
  refine ⟨fun hp => ?computed, fun hp => ?readback⟩ <;> rw [← addressed_params i s] at hp
  case computed =>
    simp only [exec_of_forms (stepMem f) h s i hi, stepMem_computed f _ hp, State.addWait, addressed_p]
  case readback =>
    simp only [exec_of_forms (stepMem f) h s i hi, stepMem_readback f _ hp, State.addWait, addressed_p]

/-- An instruction of mode none runs its behaviour on the state as it is and charges its base cycles
(40_step_and_addressing.md R104). -/
theorem exec_mode_none {i : Instr} {f : Word → State → State} (hb : behaviourOf i = some f)
    (hm : i.row.mode = .none) (s : State) : exec i s = .next ((f 0 s).addWait i.row.cycles) := by
  have haddr : addressed i s = (0, s) := by rw [addressed, hm, resolve]
  rw [exec_eq, hb]
  simp only [instrTick, haddr]

/-- The forms of the compare with one register, of which resolution leaves the value (R196 to R198). -/
theorem exec_compare {reg : State → Byte} (hreg : ∀ i s, reg (addressed i s).2 = reg s) {l : List Instr}
    (h : l.map behaviourOf = List.replicate l.length (some fun ea s => compareAt (reg s) ea s)) (s : State) :
    ∀ i ∈ l, exec i s =
      let r := addressed i s
      let m := busRead r.2.devices r.1
      .next { r.2 with
        devices := m.2, p := compareOf (reg s) m.1 s.p, waitCycles := r.2.waitCycles + i.row.cycles } := by
  intro i hi
  simp only [exec_of_forms _ h s i hi, compareAt_eq, State.addWait, addressed_p, hreg]

/-! ## The obligations -/

/-- Settles O44: the step of a byte in memory at plus one and at minus one. -/
theorem incrementDecrement : Obligations.IncrementDecrement := fun _ _ s =>
  ⟨exec_stepMem (· + 1) rfl s, exec_stepMem (· - 1) rfl s⟩

/-- Settles O45: instructions of mode none, so the behaviour of the row and its two cycles are all. -/
theorem registerSteps : Obligations.RegisterSteps := fun s =>
  ⟨⟨rfl, exec_mode_none (f := inxOp) rfl rfl s⟩, ⟨rfl, exec_mode_none (f := inyOp) rfl rfl s⟩,
    ⟨rfl, exec_mode_none (f := dexOp) rfl rfl s⟩, ⟨rfl, exec_mode_none (f := deyOp) rfl rfl s⟩⟩

/-- Settles O46: the compare at each of the three registers. -/
theorem compares : Obligations.Compares := fun _ _ s =>
  ⟨exec_compare addressed_a rfl s, exec_compare addressed_x rfl s, exec_compare addressed_y rfl s⟩

end Sys2Proof.Machine
end

section
/-! Jumps, calls, returns and branches (45_control_flow.md R210 to R222). A word pushed is popped again on a RAM stack
whose two bytes are different cells (`pop16_push16`), which is why a call returns; the eight branches differ in their
condition only, so a branch is said once for any of them (`exec_branch`). -/

namespace Sys2Proof

theorem Device.plain_of_isRam {d : Device} (h : d.store.isRam = true) : d.plain = true := by
  obtain ⟨f, l, st⟩ := d
  cases st with
  | ram | rom => rfl
  | foreign => simp [Store.isRam] at h

/-- A RAM address is settled. -/
theorem settled_of_backed {ds : List Device} {a : Word} (h : backed ds a = true) : settled ds a = true := by
  induction ds with
  | nil => rfl
  | cons d ds ih =>
    by_cases hc : d.covers a = true
    · simpa [settled, hc] using Device.plain_of_isRam (by simpa [backed, hc] using h)
    · simpa [settled, hc] using ih (by simpa [backed, hc] using h)

end Sys2Proof

namespace Sys2Proof.Machine

/-! ## The stack by words, field by field -/

/-- High byte first (40_step_and_addressing.md R119). -/
theorem State.push16_eq (s : State) (w : Word) :
    s.push16 w =
      let d := busWrite s.devices (stackAddr s.sp) (hiByte w)
      { s with devices := busWrite d (stackAddr (s.sp - 1)) (loByte w), sp := s.sp - 2 } := by
  have hsp : s.sp - 2 = s.sp - 1 - 1 := (sub_sub s.sp 1 1).symm
  rw [hsp]
  rfl

/-- Low byte first (R120). -/
theorem State.pop16_eq (s : State) :
    s.pop16 =
      let lo := busRead s.devices (stackAddr (s.sp + 1))
      let hi := busRead lo.2 (stackAddr (s.sp + 2))
      (mkWord hi.1 lo.1, { s with devices := hi.2, sp := s.sp + 2 }) := by
  have hsp : s.sp + 2 = s.sp + 1 + 1 := (add_assoc s.sp 1 1).symm
  rw [hsp]
  rfl

/-- The word popped depends on the bus and SP only. -/
theorem pop16_fst_congr {s t : State} (hd : t.devices = s.devices) (hsp : t.sp = s.sp) :
    t.pop16.1 = s.pop16.1 := by
  simp only [State.pop16_eq, hd, hsp]

/-- P, then the word (45_control_flow.md R213). -/
theorem State.returnFromHandler_eq (s : State) :
    s.returnFromHandler =
      let p := busRead s.devices (stackAddr (s.sp + 1))
      let lo := busRead p.2 (stackAddr (s.sp + 2))
      let hi := busRead lo.2 (stackAddr (s.sp + 3))
      { s with devices := hi.2, sp := s.sp + 3, p := pulledStatus p.1, pc := mkWord hi.1 lo.1 } := by
  have htwo : s.sp + 2 = s.sp + 1 + 1 := (add_assoc s.sp 1 1).symm
  have hthree : s.sp + 3 = s.sp + 1 + 2 := (add_assoc s.sp 1 2).symm
  rw [State.returnFromHandler, State.pop16_eq, htwo, hthree]
  rfl

/-! ## A call and its return -/

/-- A word pushed on a RAM stack is popped again, when its two bytes are different cells: the low byte by
`pop8_push8`, and the high byte past the write of the low one and the read of it. -/
theorem pop16_push16 {s : State} (hinv : s.Inv) (hhi : backed s.devices (stackAddr s.sp) = true)
    (hlo : backed s.devices (stackAddr (s.sp - 1)) = true) (hap : s.apart (stackAddr (s.sp - 1)) (stackAddr s.sp))
    (w : Word) : (s.push16 w).pop16.1 = w := by
  have hlow : (s.push16 w).pop8.1 = loByte w := by
    have hinv' : (s.push8 (hiByte w)).Inv := ⟨(s.push8_accessed _).ok hinv.1, hinv.2⟩
    exact pop8_push8 hinv' ((backed_busWrite _ _ _ _).trans hlo) _
  have hhigh : (s.push16 w).pop8.2.pop8.1 = hiByte w := by
    have hset := settled_of_backed hhi
    have hread : (s.push16 w).pop8.2.pop8.1 =
        (busRead (busRead (s.push16 w).devices (stackAddr (s.sp - 1 - 1 + 1))).2
          (stackAddr (s.sp - 1 - 1 + 1 + 1))).1 := rfl
    rw [hread, sub_add_cancel, sub_add_cancel, State.push16_eq, busRead_busRead (by simpa using hset),
      busRead_busWrite_apart (by simpa using hset) (by simpa [State.apart] using hap),
      busRead_busWrite_backed hinv.1 hhi rfl]
  rw [State.pop16, hlow, hhigh, mkWord_halves]

/-- JSR, on the state as it is: mode abs accesses nothing (R211). -/
theorem exec_jsr (w : Word) (s : State) :
    exec (.jsr w) s = .next (((s.push16 (s.pc - 1)).setPc w).addWait 6) := rfl

/-- RTS, on the state as it is (R212). -/
theorem exec_rts (s : State) : exec .rts s = .next ((s.pop16.2.setPc (s.pop16.1 + 1)).addWait 6) := rfl

/-! ## Branches -/

/-- A branch, field by field (R214). -/
theorem branchIf_eq (cond : Bool) (ea : Word) (s : State) :
    branchIf cond ea s = { s with
      pc := if cond then ea else s.pc
      waitCycles := s.waitCycles + if cond && pageCross s.pc ea then 1 else 0 } := by
  cases cond
  · rfl
  · cases h : pageCross s.pc ea <;> simp [branchIf, h, State.addWait, State.setPc]

/-- Where the one-byte operand of mode rel points from the PC past the instruction, and nothing else done
(40_step_and_addressing.md R115). -/
theorem addressed_rel {i : Instr} {b : Byte} (hm : i.row.mode = .rel) (ho : i.operand = zext16 b) (s : State) :
    addressed i s =
      (BitVec.ofInt 16 (s.pc.toNat + (if b.toNat < 128 then (b.toNat : Int) else b.toNat - 256)), s) := by
  have harg : argAddr i s + 1 = s.pc := by
    rw [argAddr, hm]
    exact sub_add_cancel s.pc 1
  rw [addressed, hm, resolve, harg, ho, loByte_zext16, sext16_eq, BitVec.ofInt_add, BitVec.ofInt_natCast,
    BitVec.ofNat_toNat, BitVec.setWidth_eq]

/-- A two-cycle instruction of mode rel that branches on a condition of the state (R214). -/
theorem exec_branch {i : Instr} {b : Byte} (cond : State → Bool)
    (hb : behaviourOf i = some fun ea s => branchIf (cond s) ea s) (hm : i.row.mode = .rel)
    (ho : i.operand = zext16 b) (hc : i.row.cycles = 2) (s : State) :
    let target : Word :=
      BitVec.ofInt 16 (s.pc.toNat + (if b.toNat < 128 then (b.toNat : Int) else b.toNat - 256))
    exec i s = .next { s with
      pc := if cond s then target else s.pc
      waitCycles :=
        s.waitCycles + 2 + if cond s && decide (s.pc.toNat / 256 ≠ target.toNat / 256) then 1 else 0 } := by
  intro target
  rw [exec_eq, hb]
  simp only [instrTick, addressed_rel hm ho, hc, branchIf_eq, State.addWait, pageCross_iff, Nat.add_right_comm]
  rfl

/-! ## The obligations -/

/-- Settles O47: JMP loads PC with the effective address; JSR pushes the address of its last byte first. -/
theorem jumpAndCall : Obligations.JumpAndCall := by
  intro w s
  refine ⟨rfl, rfl, ?_⟩
  rw [exec_jsr, State.push16_eq]
  rfl

/-- Settles O48: instructions of mode none, so the pops and the load of PC are all. -/
theorem returns : Obligations.Returns := by
  intro s
  constructor
  · rw [exec_rts, State.pop16_eq]
    rfl
  · rw [exec_mode_none (f := rtiOp) rfl rfl, rtiOp, State.returnFromHandler_eq]
    rfl

/-- Settles O49: RTS pops the word JSR pushed, one less than the PC it started from. -/
theorem callThenReturn : Obligations.CallThenReturn := by
  intro w s t u hinv hhi hlo hap hjsr hrts
  rw [exec_jsr, Host.Outcome.next.injEq] at hjsr
  rw [exec_rts, Host.Outcome.next.injEq] at hrts
  have hpop : t.pop16.1 = s.pc - 1 := by
    rw [← pop16_push16 hinv hhi hlo hap (s.pc - 1), ← hjsr]
    exact pop16_fst_congr rfl rfl
  subst hrts
  constructor
  · simp [hpop]
  · simp [← hjsr]

/-- Settles O50: the branch at each of the eight conditions (`branches` is the list of their mnemonics). -/
theorem eightBranches : Obligations.Branches := fun _ s =>
  ⟨exec_branch (fun s => !s.flag .N) rfl rfl rfl rfl s, exec_branch (State.flag · .N) rfl rfl rfl rfl s,
    exec_branch (fun s => !s.flag .V) rfl rfl rfl rfl s, exec_branch (State.flag · .V) rfl rfl rfl rfl s,
    exec_branch (fun s => !s.flag .C) rfl rfl rfl rfl s, exec_branch (State.flag · .C) rfl rfl rfl rfl s,
    exec_branch (fun s => !s.flag .Z) rfl rfl rfl rfl s, exec_branch (State.flag · .Z) rfl rfl rfl rfl s⟩

end Sys2Proof.Machine
end

section
/-! BRK, NOP, flag control and stack instructions (46_system_flags_stack.md R230 to R242). All but NOP are of mode none,
so each is its behaviour on the state as it is (`exec_mode_none`). The modes of the NOP rows access nothing, so of
resolution only the page-cross cycle of abx is left. -/

namespace Sys2Proof.Machine

/-! ## The behaviours, field by field -/

/-- The write is at the SP before it decreases (40_step_and_addressing.md R117). -/
theorem State.push8_eq (s : State) (v : Byte) :
    s.push8 v = { s with devices := busWrite s.devices (stackAddr s.sp) v, sp := s.sp - 1 } := rfl

/-- The read is at the SP after it has increased (R118). -/
theorem State.pop8_eq (s : State) :
    s.pop8 =
      let v := busRead s.devices (stackAddr (s.sp + 1))
      (v.1, { s with devices := v.2, sp := s.sp + 1 }) := rfl

/-- Three pushes, then two reads, which see the devices as the pushes left them (46_system_flags_stack.md R230,
60_exceptions.md R306). -/
theorem State.enterHandler_eq (s : State) (ret : Word) (brk : Bool) (vec : Word) :
    s.enterHandler ret brk vec =
      let d1 := busWrite s.devices (stackAddr s.sp) (hiByte ret)
      let d2 := busWrite d1 (stackAddr (s.sp - 1)) (loByte ret)
      let d3 := busWrite d2 (stackAddr (s.sp - 2)) (pushedStatus brk s.p)
      let lo := busRead d3 vec
      let hi := busRead lo.2 (vec + 1)
      { s with devices := hi.2, sp := s.sp - 3, p := putFlag .I true s.p, pc := mkWord hi.1 lo.1 } := by
  have hsp : s.sp - 3 = s.sp - 2 - 1 := (sub_sub s.sp 2 1).symm
  rw [State.enterHandler, State.push16_eq, State.push8_eq, hsp]
  rfl

/-! ## The groups as instructions -/

/-- A two-cycle instruction of mode none that writes one flag (R232 to R238). -/
theorem exec_setFlag (f : Flag) (v : Bool) {i : Instr} (hb : behaviourOf i = some fun _ s => s.setFlag f v)
    (hm : i.row.mode = .none) (hc : i.row.cycles = 2) (s : State) :
    exec i s = .next { s with p := putFlag f v s.p, waitCycles := s.waitCycles + 2 } := by
  rw [exec_mode_none hb hm, hc]
  rfl

/-- A mode that goes through no pointer accesses nothing: resolution charges its page cross and no more (R104 to R108,
R111 to R113, R115). -/
theorem addressed_of_no_pointer {i : Instr} (hm : i.row.mode ∉ [.izx, .izy, .ind]) (s : State) :
    (addressed i s).2 = s.addWait (bit (indexCrossed i s)) := by
  cases h : i.row.mode
  case izx | izy | ind => simp [h] at hm
  case abx | aby => simp only [addressed, indexCrossed, h, resolve, indexed_cases]; rfl
  all_goals simp only [addressed, indexCrossed, h, resolve]; rfl

/-- The modes of the NOP rows (47_undocumented.md R284). -/
def nopModes : List Mode := [.none, .imm, .zp, .zpx, .abs, .abx]

/-- Of the modes of the NOP rows only abx crosses a page (R112, R116). -/
theorem indexCrossed_of_nopModes {i : Instr} {w : Word} (hm : i.row.mode ∈ nopModes)
    (ho : i.row.mode = .abx → i.operand = w) (s : State) :
    bit (indexCrossed i s) =
      if i.row.mode = .abx ∧ w.toNat / 256 ≠ (w.toNat + s.x.toNat) % 65536 / 256 then 1 else 0 := by
  cases h : i.row.mode
  case aby | izx | izy | zpy | ind | rel => simp [h, nopModes] at hm
  case abx => simp [bit, indexCrossed, h, ho h, pageCross_iff, zext16_toNat]
  all_goals simp [bit, indexCrossed, h]

/-- The forms of NOP (46_system_flags_stack.md R231, 47_undocumented.md R284), those of mode abx with the operand `w`. -/
theorem exec_nop {w : Word} {l : List Instr} (hb : l.map behaviourOf = List.replicate l.length (some nopOp))
    (hm : l.all (decide <| ·.row.mode ∈ nopModes) = true)
    (ho : (l.filter (·.row.mode == .abx)).map Instr.operand = List.replicate (l.filter (·.row.mode == .abx)).length w)
    (s : State) :
    ∀ i ∈ l, exec i s = .next { s with
      waitCycles := s.waitCycles + i.row.cycles +
        if i.row.mode = .abx ∧ w.toNat / 256 ≠ (w.toNat + s.x.toNat) % 65536 / 256 then 1 else 0 } := by
  intro i hi
  have hmode : i.row.mode ∈ nopModes := of_decide_eq_true (List.all_eq_true.mp hm i hi)
  have hop : i.row.mode = .abx → i.operand = w := fun h =>
    (List.eq_replicate_iff.mp ho).2 _ (List.mem_map_of_mem (List.mem_filter.mpr ⟨hi, beq_iff_eq.mpr h⟩))
  have hp : i.row.mode ∉ [.izx, .izy, .ind] := (by decide : ∀ m ∈ nopModes, m ∉ [Mode.izx, .izy, .ind]) _ hmode
  rw [exec_of_forms nopOp hb s i hi, nopOp, addressed_of_no_pointer hp, indexCrossed_of_nopModes hmode hop]
  simp only [State.addWait, Nat.add_right_comm]

/-! ## The obligations -/

/-- Settles O51: BRK enters the handler at `$FFFE` with the address past the byte after its opcode. -/
theorem breakInstruction : Obligations.BreakInstruction := by
  intro s
  rw [exec_mode_none (f := brkOp) rfl rfl, brkOp, State.enterHandler_eq]
  rfl

/-- Settles O52: the behaviour leaves the state resolution made, whose page-cross cycle is that of abx. -/
theorem noOperation : Obligations.NoOperation := fun _ _ s => exec_nop rfl rfl rfl s

/-- Settles O53: the write of one flag at each of the seven. -/
theorem flagControl : Obligations.FlagControl := fun s =>
  ⟨⟨rfl, exec_setFlag .C false rfl rfl rfl s⟩, ⟨rfl, exec_setFlag .C true rfl rfl rfl s⟩,
    ⟨rfl, exec_setFlag .I false rfl rfl rfl s⟩, ⟨rfl, exec_setFlag .I true rfl rfl rfl s⟩,
    ⟨rfl, exec_setFlag .V false rfl rfl rfl s⟩, ⟨rfl, exec_setFlag .D false rfl rfl rfl s⟩,
    ⟨rfl, exec_setFlag .D true rfl rfl rfl s⟩⟩

/-- Settles O54: one push or one pop, and what the row makes of the byte. -/
theorem stackInstructions : Obligations.StackInstructions := by
  intro s
  refine ⟨?pha, ?php, ?pla, ?plp⟩
  case pha => rw [exec_mode_none (f := phaOp) rfl rfl, phaOp, State.push8_eq]; rfl
  case php => rw [exec_mode_none (f := phpOp) rfl rfl, phpOp, State.push8_eq]; rfl
  case pla => rw [exec_mode_none (f := plaOp) rfl rfl, plaOp, State.pop8_eq]; rfl
  case plp => rw [exec_mode_none (f := plpOp) rfl rfl, plpOp, State.pop8_eq]; rfl

end Sys2Proof.Machine
end

section
/-! The undocumented instructions and the unknown-opcode rows (47_undocumented.md R260 to R287). In a composition on
memory the first instruction's N and Z are overwritten by the second (`ReplacesNZ`), so the first leaves the second its
accesses and, if it is a shift, its carry; what stands at the effective address is read again by the second. -/

namespace Sys2Proof.Machine

/-! ## The unknown opcodes -/

/-- A row without a behaviour stops with the fatal core error (R287, 60_exceptions.md R320). -/
theorem exec_unknown {i : Instr} (h : behaviourOf i = none) (s : State) :
    exec i s = .fault (.unknownOpcode (s.pc - 1) s) := by
  rw [exec_eq, h]
  exact unknownOpcode_eq s

/-- The tick that fetches an opcode byte without a behaviour: the error comes before the trace line (R320, R331). -/
theorem step_unknown {s : State} (hr : s.readyToFetch) (hc : s.cpuAlone)
    (hn : operandCount (busRead s.devices s.pc).1 = 0)
    (hb : behaviourOf (instrOf (busRead s.devices s.pc).1 0 0) = none) :
    step s = .fault (.unknownOpcode s.pc { s with
      devices := (busRead s.devices s.pc).2, pc := s.pc + 1, tickCount := s.tickCount + 1 }) := by
  have hfetch := fetch_no_operand (s := { s with tickCount := s.tickCount + 1 }) hn
  rw [step_ready hr hc, instructionTick, hfetch]
  simp only [fetchByte_eq, exec_unknown hb, traced, add_sub_cancel_right]

/-! ## Flags that are overwritten -/

/-- `set_nz` leaves the other six flags (40_step_and_addressing.md R121). -/
theorem getFlag_nzOf_of_ne {f : Flag} (v p : Byte) (hz : f ≠ .Z := by decide) (hn : f ≠ .N := by decide) :
    getFlag f (nzOf v p) = getFlag f p := by
  rw [getFlag_nzOf, if_neg hz, if_neg hn]

/-- Of the flags of `set_nz` a compare keeps none (40_step_and_addressing.md R121, R122). -/
theorem compareOf_nzOf (a b v p : Byte) : compareOf a b (nzOf v p) = compareOf a b p := by
  rw [compareOf, nzOf_nzOf, compareOf]

/-- Of the flags of `set_nz` an addition or a subtraction keeps none (10_state.md R33). -/
theorem Alu.flags_nzOf (o : Alu) (v p : Byte) : o.flags (nzOf v p) = o.flags p :=
  status_ext fun f => by cases f <;> simp [getFlag_alu, getFlag_nzOf]

/-- The carry in is overwritten by the carry out (10_state.md R33). -/
theorem Alu.flags_putFlag_carry (o : Alu) (b : Bool) (p : Byte) : o.flags (putFlag .C b p) = o.flags p :=
  status_ext fun f => by cases f <;> simp [getFlag_alu]

/-- A write of the carry between two `set_nz` stays, and the first `set_nz` does not. -/
theorem nzOf_putFlag_carry_nzOf (v u p : Byte) (b : Bool) :
    nzOf v (putFlag .C b (nzOf u p)) = nzOf v (putFlag .C b p) :=
  status_ext fun f => by cases f <;> simp [getFlag_nzOf]

/-- A behaviour that neither reads N and Z nor leaves them: a `set_nz` before it is lost. -/
def ReplacesNZ (g : Word → State → State) : Prop := ∀ ea v s, g ea (s.setNZ v) = g ea s

theorem oraOp_replacesNZ : ReplacesNZ oraOp := fun ea v s => by
  simp only [oraOp_eq, State.setNZ, State.setP, nzOf_nzOf]

theorem andOp_replacesNZ : ReplacesNZ andOp := fun ea v s => by
  simp only [andOp_eq, State.setNZ, State.setP, nzOf_nzOf]

theorem eorOp_replacesNZ : ReplacesNZ eorOp := fun ea v s => by
  simp only [eorOp_eq, State.setNZ, State.setP, nzOf_nzOf]

theorem cmpOp_eq (ea : Word) (s : State) :
    cmpOp ea s =
      let m := busRead s.devices ea
      { s with devices := m.2, p := compareOf s.a m.1 s.p } := rfl

theorem cmpOp_replacesNZ : ReplacesNZ cmpOp := fun ea v s => by
  simp only [cmpOp_eq, State.setNZ, State.setP, compareOf_nzOf]

theorem adcOp_replacesNZ : ReplacesNZ adcOp := fun ea v s => by
  have hc := getFlag_nzOf_of_ne (f := .C) v s.p
  have hd := getFlag_nzOf_of_ne (f := .D) v s.p
  simp only [adcOp_eq, State.setNZ, State.setP, hc, hd, Alu.flags_nzOf]

theorem sbcOp_replacesNZ : ReplacesNZ sbcOp := fun ea v s => by
  have hc := getFlag_nzOf_of_ne (f := .C) v s.p
  have hd := getFlag_nzOf_of_ne (f := .D) v s.p
  simp only [sbcOp_eq, State.setNZ, State.setP, hc, hd, Alu.flags_nzOf]

/-! ## Compositions on memory -/

/-- After a shift of memory (R178) a behaviour that replaces N and Z runs from the devices as the read-back left them
and from the carry shifted out. -/
theorem ReplacesNZ.after_shiftMem {g : Word → State → State} (hg : ReplacesNZ g) (f : Shift) (ea : Word) (s : State) :
    g ea (shiftMem f ea s) =
      let m := busRead s.devices ea
      let o := f (getFlag .C s.p) m.1
      g ea { s with devices := (busRead (busWrite m.2 ea o.1) ea).2, p := putFlag .C o.2 s.p } := hg ea _ _

/-- The devices after INC or DEC: a third access, the read-back, only where the parameter says so
(92_eei_decisions.md D11). -/
def steppedDevices (nz : IncdecNz) (f : Byte → Byte) (ea : Word) (ds : List Device) : List Device :=
  let m := busRead ds ea
  let d := busWrite m.2 ea (f m.1)
  match nz with
  | .computed => d
  | .readback => (busRead d ea).2

/-- A step of memory (R190, R191) is its accesses and a `set_nz`, under both values of the parameter. -/
theorem stepMem_cases (f : Byte → Byte) (ea : Word) (s : State) :
    ∃ v, stepMem f ea s = (s.setDevices (steppedDevices s.params.incdecNz f ea s.devices)).setNZ v := by
  cases hp : s.params.incdecNz
  case computed => exact ⟨f (busRead s.devices ea).1, stepMem_computed f ea hp⟩
  case readback =>
    exact ⟨(busRead (busWrite (busRead s.devices ea).2 ea (f (busRead s.devices ea).1)) ea).1,
      stepMem_readback f ea hp⟩

/-- After a step of memory a behaviour that replaces N and Z runs from the devices as the last access left them. -/
theorem ReplacesNZ.after_stepMem {g : Word → State → State} (hg : ReplacesNZ g) (f : Byte → Byte) (ea : Word)
    (s : State) :
    g ea (stepMem f ea s) = g ea (s.setDevices (steppedDevices s.params.incdecNz f ea s.devices)) := by
  obtain ⟨v, h⟩ := stepMem_cases f ea s
  rw [h, hg]

/-! ## Compositions on an immediate operand -/

/-- An instruction of mode imm runs its behaviour at the address of the byte after the opcode
(40_step_and_addressing.md R105). -/
theorem exec_mode_imm {i : Instr} {f : Word → State → State} (hb : behaviourOf i = some f)
    (hm : i.row.mode = .imm) (s : State) : exec i s = .next ((f (s.pc - 1) s).addWait i.row.cycles) := by
  have haddr : addressed i s = (s.pc - 1, s) := by rw [addressed, argAddr, hm]; rfl
  rw [exec_eq, hb]
  simp only [instrTick, haddr]

/-- ANC (R268): the carry is bit 7 of the result, the N the AND has just written. -/
theorem ancOp_eq (ea : Word) (s : State) :
    ancOp ea s =
      let m := busRead s.devices ea
      let t := s.a &&& m.1
      { s with devices := m.2, a := t, p := putFlag .C (t.getLsbD 7) (nzOf t s.p) } := by
  have hn : (andOp ea s).flag .N = (s.a &&& (busRead s.devices ea).1).getLsbD 7 := getFlag_nzOf _ _ .N
  rw [ancOp, hn]
  rfl

/-- ALR (R269): the N and Z of the AND are overwritten by those of the shift. -/
theorem alrOp_eq (ea : Word) (s : State) :
    alrOp ea s =
      let m := busRead s.devices ea
      let t := s.a &&& m.1
      { s with devices := m.2, a := t >>> 1, p := nzOf (t >>> 1) (putFlag .C (t.getLsbD 0) s.p) } := by
  simp only [alrOp, andOp_eq, shiftA_eq, lsrOf, nzOf_putFlag_carry_nzOf]

/-- The rotation of R271 as a number: the carry comes in at bit 7 and bit 0 is dropped. -/
theorem rotatedIn_toNat (t : Byte) (c : Bool) : (rotatedIn t c).toNat = t.toNat / 2 + 128 * bit c := by
  have hhalf : t.toNat / 2 < 2 ^ 7 := by have := t.isLt; omega
  cases c
  case false => simp [rotatedIn, bitByte, bit, Nat.shiftRight_eq_div_pow]
  case true =>
    have hor := Nat.two_pow_add_eq_or_of_lt hhalf 1
    simp only [rotatedIn, bitByte, bit, BitVec.toNat_or, BitVec.toNat_ushiftRight, Nat.shiftRight_eq_div_pow]
    rw [Nat.or_comm, Nat.add_comm]
    exact hor.symm

/-- Bit 7 of the rotation is the carry in. -/
theorem rotatedIn_bit7 (t : Byte) (c : Bool) : (rotatedIn t c).getLsbD 7 = c := by
  cases c <;> simp [rotatedIn, bitByte]

/-! ## SHY and SHX -/

/-- The store of SHY and SHX after an indexed resolution: the base address is the effective address without the index
(R274, R275). -/
theorem storeHigh_indexed (reg index : Byte) (w : Word) (s : State) :
    storeHigh reg index (indexed w index s).1 (indexed w index s).2 =
      let ea := w + zext16 index
      let v := reg &&& (hiByte w + 1)
      { s with
        devices := busWrite s.devices (if pageCross w ea then mkWord v (loByte ea) else ea) v
        waitCycles := s.waitCycles + if pageCross w ea then 1 else 0 } := by
  simp only [storeHigh, highAddress, highValue, indexed_cases, add_sub_cancel_right]
  rfl

/-- `page_cross` as the condition of a choice (40_step_and_addressing.md R116). -/
theorem ite_pageCross {α : Type} (a b : Word) (x y : α) :
    (if pageCross a b then x else y) = if a.toNat / 256 = b.toNat / 256 then y else x := by
  simp [pageCross_iff, ite_not]

/-- A five-cycle instruction that stores a register and the high byte plus one, indexed by another register. -/
theorem exec_storeHigh (reg index : State → Byte) {i : Instr} {w : Word} {s : State}
    (hb : behaviourOf i = some fun ea s => storeHigh (reg s) (index s) ea s) (hc : i.row.cycles = 5)
    (haddr : addressed i s = indexed w (index s) s) (hreg : reg (addressed i s).2 = reg s)
    (hindex : index (addressed i s).2 = index s) :
    exec i s =
      let ea := w + zext16 (index s)
      let v := reg s &&& (hiByte w + 1)
      .next { s with
        devices := busWrite s.devices (if w.toNat / 256 = ea.toNat / 256 then ea else mkWord v (loByte ea)) v
        waitCycles := s.waitCycles + 5 + if w.toNat / 256 = ea.toNat / 256 then 0 else 1 } := by
  rw [exec_eq, hb]
  simp only [instrTick]
  rw [hreg, hindex, haddr, storeHigh_indexed]
  simp only [hc, State.addWait, ite_pageCross, Nat.add_right_comm]

/-! ## The obligations -/

/-- Settles O10: the eighteen rows are those without a behaviour, and their opcode bytes take no operand byte. -/
theorem unknownOpcodes : Obligations.UnknownOpcode := by
  refine ⟨fun s i hi => ?row, fun s hr hc hop => ?tick⟩
  case row =>
    have hb : behaviourOf i = none := List.map_eq_replicate_iff.mp rfl i hi
    exact exec_unknown hb s
  case tick =>
    have hn := (List.map_eq_replicate_iff (f := operandCount) (b := 0)).mp rfl _ hop
    have hb := (List.map_eq_replicate_iff (f := fun op => behaviourOf (instrOf op 0 0)) (b := none)).mp rfl _ hop
    exact step_unknown hr hc hn hb

/-- Settles O55: the second instruction of a composition replaces the N and Z of the first, so it runs from the first's
accesses and, after a shift, from the carry shifted out, which RRA adds. -/
theorem memoryCompositions : Obligations.MemoryCompositions := by
  intro b w s c cin decimal shifted stepped
  refine ⟨fun i hi => ?slo, fun i hi => ?rla, fun i hi => ?sre, fun i hi => ?rra, fun i hi => ?dcp, fun i hi => ?isc⟩
  case slo =>
    simp only [exec_of_forms sloOp rfl s i hi, sloOp, aslOp, oraOp_replacesNZ.after_shiftMem, oraOp_eq, State.addWait,
      addressed_a, addressed_p]
    rfl
  case rla =>
    simp only [exec_of_forms rlaOp rfl s i hi, rlaOp, rolOp, andOp_replacesNZ.after_shiftMem, andOp_eq, State.addWait,
      addressed_a, addressed_p]
    rfl
  case sre =>
    simp only [exec_of_forms sreOp rfl s i hi, sreOp, lsrOp, eorOp_replacesNZ.after_shiftMem, eorOp_eq, State.addWait,
      addressed_a, addressed_p]
    rfl
  case rra =>
    simp only [exec_of_forms rraOp rfl s i hi, rraOp, rorOp, adcOp_replacesNZ.after_shiftMem, adcOp_eq, State.addWait,
      addressed_a, addressed_p, addressed_decimalDisabled, getFlag_putFlag, Alu.flags_putFlag_carry]
    rfl
  case dcp =>
    simp only [exec_of_forms dcpOp rfl s i hi, dcpOp, decOp, cmpOp_replacesNZ.after_stepMem, cmpOp_eq,
      State.setDevices, State.addWait, addressed_a, addressed_p, addressed_params]
    rfl
  case isc =>
    simp only [exec_of_forms iscOp rfl s i hi, iscOp, incOp, sbcOp_replacesNZ.after_stepMem, sbcOp_eq,
      State.setDevices, State.addWait, addressed_a, addressed_p, addressed_params, addressed_decimalDisabled]
    rfl

/-- Settles O56: mode imm reads the byte at PC - 1, and the binary ARR is the rotation as a number. -/
theorem immediateCompositions : Obligations.ImmediateCompositions := by
  intro b s m t c
  refine ⟨fun i hi => ?anc, ?alr, ?arr, ?axs, rotatedIn_toNat t c, rfl, rfl, rotatedIn_bit7 t c, beq_iff_eq⟩
  case anc =>
    obtain rfl | rfl := List.mem_pair.mp hi
    all_goals
      rw [exec_mode_imm (f := ancOp) rfl rfl, ancOp_eq]
      rfl
  case alr =>
    rw [exec_mode_imm (f := alrOp) rfl rfl, alrOp_eq]
    rfl
  case arr => exact exec_mode_imm (f := arrOp) rfl rfl s
  case axs => exact exec_mode_imm (f := axsOp) rfl rfl s

/-- Settles O57: the store at each of the two pairs of a register and an index. -/
theorem storesHigh : Obligations.StoreHigh := fun _ _ =>
  ⟨exec_storeHigh State.y State.x rfl rfl rfl (addressed_y _ _) (addressed_x _ _),
    exec_storeHigh State.x State.y rfl rfl rfl (addressed_x _ _) (addressed_y _ _)⟩

end Sys2Proof.Machine
end

section
/-! Exceptions, requests and the trace line (60_exceptions.md R302 to R331); reset and the uses of time
(70_reset_and_hazards.md R340, R341, R350). That cycle counts affect no value is one property of a state function,
`CommutesWait`, which composes: it is shown of the resolver and of each row of `footprints`. -/

namespace Sys2Proof.Machine

/-! ## Time affects no value -/

/-- The wait count goes through `f` as a sum only: nothing `f` does depends on it, and what `f` adds is the same
(70_reset_and_hazards.md R350). -/
def CommutesWait (f : State → State) : Prop := ∀ s n, f (s.addWait n) = (f s).addWait n

theorem CommutesWait.comp {f g : State → State} (hg : CommutesWait g) (hf : CommutesWait f) :
    CommutesWait fun s => g (f s) := fun s n => (congrArg g (hf s n)).trans (hg (f s) n)

theorem addWait_right_comm (s : State) (n m : Nat) : (s.addWait n).addWait m = (s.addWait m).addWait n := by
  simp only [State.addWait, Nat.add_right_comm]

/-- From a state with another wait count such a function does the same, and adds the same number of cycles: both runs
are that from no wait, with the count added after it. -/
theorem CommutesWait.retimed {f : State → State} (hf : CommutesWait f) (s : State) (w : Nat) :
    s.waitCycles ≤ (f s).waitCycles ∧
      f { s with waitCycles := w } =
        { f s with waitCycles := w + ((f s).waitCycles - s.waitCycles) } := by
  have hrun (v : Nat) : f { s with waitCycles := v } = (f { s with waitCycles := 0 }).addWait v := by
    rw [← hf, State.addWait, Nat.zero_add]
  have hs : f s = (f { s with waitCycles := 0 }).addWait s.waitCycles := hrun s.waitCycles
  rw [hrun w, hs, State.addWait_waitCycles, Nat.add_sub_cancel, Nat.add_comm w]
  exact ⟨Nat.le_add_left _ _, rfl⟩

theorem indexed_addWait (base : Word) (index : Byte) (s : State) (n : Nat) :
    indexed base index (s.addWait n) = ((indexed base index s).1, (indexed base index s).2.addWait n) := by
  simp only [indexed]
  split
  · rw [addWait_right_comm]
  · rfl

/-- Resolution does not depend on the wait count (40_step_and_addressing.md R103). -/
theorem resolve_addWait (m : Mode) (arg operand : Word) (s : State) (n : Nat) :
    resolve m arg operand (s.addWait n) =
      ((resolve m arg operand s).1, (resolve m arg operand s).2.addWait n) := by
  cases m
  case abx | aby => exact indexed_addWait _ _ s n
  case izy => exact indexed_addWait _ _ (zpPointer (loByte operand) s).2 n
  all_goals rfl

theorem addressed_addWait (i : Instr) (s : State) (n : Nat) :
    addressed i (s.addWait n) = ((addressed i s).1, (addressed i s).2.addWait n) := resolve_addWait _ _ _ s n

theorem stepMem_commutesWait (f : Byte → Byte) (ea : Word) : CommutesWait (stepMem f ea) := by
  intro s n
  simp only [stepMem, State.addWait_params]
  split <;> rfl

theorem branchIf_commutesWait (cond : State → Bool) (hc : ∀ s n, cond (s.addWait n) = cond s) (ea : Word) :
    CommutesWait fun s => branchIf (cond s) ea s := by
  intro s n
  simp only [branchIf, hc, State.addWait_pc, addWait_right_comm s n 1]
  split
  · split <;> rfl
  · rfl

theorem rtiOp_commutesWait (ea : Word) : CommutesWait (rtiOp ea) := fun s n => by
  simp only [rtiOp, State.returnFromHandler_eq]
  rfl

theorem brkOp_commutesWait (ea : Word) : CommutesWait (brkOp ea) := fun s n => by
  simp only [brkOp, State.enterHandler_eq]
  rfl

theorem cmpOp_commutesWait (ea : Word) : CommutesWait (cmpOp ea) := fun _ _ => rfl
theorem oraOp_commutesWait (ea : Word) : CommutesWait (oraOp ea) := fun _ _ => rfl
theorem andOp_commutesWait (ea : Word) : CommutesWait (andOp ea) := fun _ _ => rfl
theorem eorOp_commutesWait (ea : Word) : CommutesWait (eorOp ea) := fun _ _ => rfl
theorem adcOp_commutesWait (ea : Word) : CommutesWait (adcOp ea) := fun _ _ => rfl
theorem sbcOp_commutesWait (ea : Word) : CommutesWait (sbcOp ea) := fun _ _ => rfl
theorem shiftMem_commutesWait (f : Shift) (ea : Word) : CommutesWait (shiftMem f ea) := fun _ _ => rfl

/-- No behaviour depends on the wait count: but for the steps of memory and the branches, whose cases are taken first,
each is register writes and bus accesses, which leave the count as it is. -/
theorem footprints_commutesWait : ∀ e ∈ footprints, ∀ ea, CommutesWait (e.2.1 ea) := by
  simp only [footprints, List.forall_mem_cons]
  exact ⟨
    -- LDA to LDY, STA to STY
    fun _ _ _ => rfl, fun _ _ _ => rfl, fun _ _ _ => rfl, fun _ _ _ => rfl, fun _ _ _ => rfl, fun _ _ _ => rfl,
    -- TAX to TXS
    fun _ _ _ => rfl, fun _ _ _ => rfl, fun _ _ _ => rfl, fun _ _ _ => rfl, fun _ _ _ => rfl, fun _ _ _ => rfl,
    -- ADC to BIT
    adcOp_commutesWait, sbcOp_commutesWait, andOp_commutesWait, oraOp_commutesWait, eorOp_commutesWait,
    fun _ _ _ => rfl,
    -- the shifts of A, then of memory; INC and DEC
    fun _ _ _ => rfl, fun _ _ _ => rfl, fun _ _ _ => rfl, fun _ _ _ => rfl,
    shiftMem_commutesWait aslOf, shiftMem_commutesWait lsrOf, shiftMem_commutesWait rolOf,
    shiftMem_commutesWait rorOf, stepMem_commutesWait (· + 1), stepMem_commutesWait (· - 1),
    -- INX to DEY, the compares
    fun _ _ _ => rfl, fun _ _ _ => rfl, fun _ _ _ => rfl, fun _ _ _ => rfl,
    cmpOp_commutesWait, fun _ _ _ => rfl, fun _ _ _ => rfl,
    -- JMP, JSR, RTS, RTI
    fun _ _ _ => rfl, fun _ _ _ => rfl, fun _ _ _ => rfl, rtiOp_commutesWait,
    -- the branches
    branchIf_commutesWait _ fun _ _ => rfl, branchIf_commutesWait _ fun _ _ => rfl,
    branchIf_commutesWait _ fun _ _ => rfl, branchIf_commutesWait _ fun _ _ => rfl,
    branchIf_commutesWait _ fun _ _ => rfl, branchIf_commutesWait _ fun _ _ => rfl,
    branchIf_commutesWait _ fun _ _ => rfl, branchIf_commutesWait _ fun _ _ => rfl,
    -- BRK, NOP, the flag instructions
    brkOp_commutesWait, fun _ _ _ => rfl, fun _ _ _ => rfl, fun _ _ _ => rfl, fun _ _ _ => rfl, fun _ _ _ => rfl,
    fun _ _ _ => rfl, fun _ _ _ => rfl, fun _ _ _ => rfl,
    -- PHA, PLA, PHP, PLP
    fun _ _ _ => rfl, fun _ _ _ => rfl, fun _ _ _ => rfl, fun _ _ _ => rfl,
    -- SLO to ISC: the memory behaviour, then that of A
    fun ea => (oraOp_commutesWait ea).comp (shiftMem_commutesWait aslOf ea),
    fun ea => (andOp_commutesWait ea).comp (shiftMem_commutesWait rolOf ea),
    fun ea => (eorOp_commutesWait ea).comp (shiftMem_commutesWait lsrOf ea),
    fun ea => (adcOp_commutesWait ea).comp (shiftMem_commutesWait rorOf ea),
    fun ea => (cmpOp_commutesWait ea).comp (stepMem_commutesWait (· - 1) ea),
    fun ea => (sbcOp_commutesWait ea).comp (stepMem_commutesWait (· + 1) ea),
    -- SAX, LAX, ANC to AXS, SHY, SHX
    fun _ _ _ => rfl, fun _ _ _ => rfl, fun _ _ _ => rfl, fun _ _ _ => rfl, fun _ _ _ => rfl, fun _ _ _ => rfl,
    fun _ _ _ => rfl, fun _ _ _ => rfl,
    List.forall_mem_nil _⟩

theorem behaviourOf_commutesWait {i : Instr} {f : Word → State → State} (hf : behaviourOf i = some f) (ea : Word) :
    CommutesWait (f ea) := by
  rw [behaviourOf_eq_find, Option.map_eq_some_iff] at hf
  obtain ⟨e, he, rfl⟩ := hf
  exact footprints_commutesWait e (List.mem_of_find?_eq_some he) ea

/-- An instruction with a behaviour completes from every state (40_step_and_addressing.md R100 steps 6 to 8). -/
theorem exec_of_behaviourOf {i : Instr} {f : Word → State → State} (hf : behaviourOf i = some f) (s : State) :
    exec i s = .next ((f (addressed i s).1 (addressed i s).2).addWait i.row.cycles) := by
  rw [exec_eq, hf]
  rfl

/-- All of an instruction: its resolution, its behaviour, its base cycles. -/
theorem instr_commutesWait {i : Instr} {f : Word → State → State} (hf : behaviourOf i = some f) :
    CommutesWait fun s => (f (addressed i s).1 (addressed i s).2).addWait i.row.cycles := by
  intro s n
  simp only [addressed_addWait, behaviourOf_commutesWait hf _ _ n]
  exact addWait_right_comm _ _ _

/-- Settles O19: both runs of an instruction are its run from no wait, with the wait count added after it. -/
theorem timeAffectsNoValue : Obligations.TimeAffectsNoValue := by
  intro i s t w h
  obtain ⟨f, hf, rfl⟩ := exec_next h
  obtain ⟨hle, hrun⟩ := (instr_commutesWait hf).retimed s w
  exact ⟨hle, (exec_of_behaviourOf hf _).trans (congrArg _ hrun)⟩

/-! ## Completion -/

/-- Settles O17: the rows that complete are those with a behaviour, and the UNK rows are those without. -/
theorem onlyUnknownStops : Obligations.OnlyUnknownStops := by
  intro i s
  rw [Ne, ← behaviourOf_none_iff]
  constructor
  · rintro ⟨t, h⟩ hnone
    obtain ⟨f, hf, -⟩ := exec_next h
    simp [hnone] at hf
  · intro hsome
    obtain ⟨f, hf⟩ := Option.ne_none_iff_exists'.mp hsome
    exact ⟨_, exec_of_behaviourOf hf s⟩

/-! ## The trace line -/

/-- On a bus of RAM and ROM a fetched byte changes PC only (20_memory.md R66). -/
theorem fetchByte_plain {s : State} (hp : s.plainBus = true) :
    s.fetchByte = (s.peek s.pc, s.setPc (s.pc + 1)) :=
  congrArg (fun t : State => (s.peek s.pc, t.setPc (s.pc + 1))) (State.memRead_plain hp s.pc)

/-- On a bus of RAM and ROM the fetch makes of the bytes at PC what the decoder does of any three, and changes PC only
(40_step_and_addressing.md R100 steps 3 to 5). -/
theorem fetch_plain {s : State} (hp : s.plainBus = true) :
    (∃ rest, decode [s.peek s.pc, s.peek (s.pc + 1), s.peek (s.pc + 2)] = .ok (s.fetch.1, rest)) ∧
      ∃ pc, s.fetch.2 = s.setPc pc := by
  have hop := fetchByte_plain hp
  have hlo : (s.setPc (s.pc + 1)).fetchByte = (s.peek (s.pc + 1), s.setPc (s.pc + 1 + 1)) := fetchByte_plain hp
  have hhi : (s.setPc (s.pc + 1 + 1)).fetchByte = (s.peek (s.pc + 1 + 1), s.setPc (s.pc + 1 + 1 + 1)) :=
    fetchByte_plain hp
  have htwo : s.pc + 2 = s.pc + 1 + 1 := (add_assoc s.pc 1 1).symm
  rcases operandCount_cases (s.peek s.pc) with hn | hn | hn
  · rw [fetch_no_operand (by rw [hop]; exact hn), decode_no_operand hn, hop]
    exact ⟨⟨_, rfl⟩, _, rfl⟩
  · rw [fetch_byte_operand (by rw [hop]; exact hn), decode_byte_operand hn, hop, hlo]
    exact ⟨⟨_, rfl⟩, _, rfl⟩
  · rw [fetch_word_operand (by rw [hop]; exact hn), decode_word_operand hn, htwo, hop, hlo, hhi]
    exact ⟨⟨_, rfl⟩, _, rfl⟩

/-- On a bus of RAM and ROM the disassembler finds what stands at the address and changes nothing (30_encoding.md
R92). -/
theorem disassembled_plain {s : State} (hp : s.plainBus = true) (a : Word) :
    (∃ rest, decode [s.peek a, s.peek (a + 1), s.peek (a + 2)] = .ok ((s.disassembled a).1, rest)) ∧
      (s.disassembled a).2 = s := by
  obtain ⟨hdecode, pc, hstate⟩ := fetch_plain (s := s.setPc a) hp
  exact ⟨hdecode, (congrArg (State.setPc · s.pc) hstate).trans rfl⟩

/-- The line the trace switch makes of a state (60_exceptions.md R331). -/
def State.traceLine (s : State) (opAddr : Word) : TraceLine :=
  { opAddr := opAddr, instr := (s.disassembled opAddr).1
    a := s.a, x := s.x, y := s.y, sp := s.sp, p := s.p, pc := s.pc }

/-- With the switch on, on a bus of RAM and ROM, the line is all that is added, whether the devices see its reads or
not. -/
theorem emitTrace_on {s : State} (hd : s.debugOn = true) (hp : s.plainBus = true) (opAddr : Word) :
    s.emitTrace opAddr = { s with trace := s.trace ++ [s.traceLine opAddr] } := by
  simp only [State.emitTrace, hd, (disassembled_plain hp opAddr).2, ite_self, if_true]
  rfl

/-- An instruction tick that completes is an instruction, then the trace line of the address fetched from
(40_step_and_addressing.md R100). -/
theorem instructionTick_next {s t : State} (h : instructionTick s = .next t) :
    ∃ u, Touches s u ∧ t = u.emitTrace s.pc := by
  rw [instructionTick] at h
  cases hx : exec s.fetch.1 s.fetch.2 with
  | next u =>
    rw [hx, traced, Host.Outcome.next.injEq] at h
    exact ⟨u, (fetch_touches s).trans (exec_touches hx), h.symm⟩
  | fault | refused => simp [hx, traced] at h

/-- A tick that runs no instruction is a wait or a service, which add no line (R100 steps 1 and 2). -/
theorem cpuTick_trace_of_not_ready {s t : State} (hr : ¬ s.readyToFetch) (h : cpuTick s = .next t) :
    t.trace = s.trace := by
  by_cases hw : s.waitCycles = 0
  · cases hn : s.pendingNmi
    · cases hi : s.pendingIrq
      · exact absurd ⟨hw, hn, hi⟩ hr
      · rw [cpuTick_irq hw hn hi, Host.Outcome.next.injEq] at h
        subst h
        exact s.enterHandler_trace s.pc false irqVector
    · rw [cpuTick_nmi hw hn, Host.Outcome.next.injEq] at h
      subst h
      exact s.enterHandler_trace s.pc false nmiVector
  · rw [cpuTick_wait (Nat.pos_of_ne_zero hw), Host.Outcome.next.injEq] at h
    subst h
    rfl

/-- Settles O12: the line follows the instruction, which touches neither the trace nor the switch; what the
disassembler finds then is what the bytes after execution decode to. -/
theorem traceLines : Obligations.TraceLines := by
  intro s t hc hp h
  by_cases hr : s.readyToFetch
  · rw [step_ready hr hc] at h
    obtain ⟨u, hu, rfl⟩ := instructionTick_next h
    have hpu : u.plainBus = true := State.plainBus_of_accessed hu.devices hp
    refine ⟨fun _ hd => ?on, fun hoff => ?off⟩
    case on =>
      obtain ⟨⟨rest, hdecode⟩, -⟩ := disassembled_plain hpu s.pc
      rw [emitTrace_on (hu.debugOn.trans hd) hpu]
      exact ⟨_, rest, hdecode, congrArg (· ++ [u.traceLine s.pc]) hu.trace⟩
    case off =>
      have hd : s.debugOn = false := hoff.resolve_left (not_not_intro hr)
      rw [emitTrace_off (hu.debugOn.trans hd)]
      exact hu.trace
  · rw [step_cpuAlone hc] at h
    exact ⟨fun hr' => absurd hr' hr,
      fun _ => cpuTick_trace_of_not_ready (s := { s with tickCount := s.tickCount + 1 }) hr h⟩

/-! ## Requests and their service -/

theorem State.irqReq_of_clear {s : State} (h : s.flag .I = false) : s.irqReq = { s with pendingIrq := true } := by
  simp [State.irqReq, h]

theorem State.irqReq_of_set {s : State} (h : s.flag .I = true) : s.irqReq = s := by
  simp [State.irqReq, h]

/-- Settles O9: a request sets a latch that may be set already, or, masked, is dropped. -/
theorem requests : Obligations.Requests := by
  intro s
  refine ⟨State.irqReq_of_clear, State.irqReq_of_set, rfl, ?_, rfl⟩
  cases hI : s.flag .I
  · rw [State.irqReq_of_clear hI]
    exact State.irqReq_of_clear hI
  · rw [State.irqReq_of_set hI, State.irqReq_of_set hI]

/-- Settles O8: service is the entry of the handler at the vector of the latch that is sampled first. -/
theorem interruptService : Obligations.InterruptService := by
  intro s hc hw d1 d2 d3
  refine ⟨fun hn => ?nmi, fun hn hi => ?irq⟩
  case nmi =>
    rw [step_cpuAlone hc, cpuTick_nmi (s := { s with tickCount := s.tickCount + 1 }) hw hn, State.serviceNmi,
      State.enterHandler_eq]
    rfl
  case irq =>
    rw [step_cpuAlone hc, cpuTick_irq (s := { s with tickCount := s.tickCount + 1 }) hw hn hi, State.serviceIrq,
      State.enterHandler_eq]
    rfl

/-! ## Reset -/

/-- Settles O22: the two values of the parameter. -/
theorem resetEvent : Obligations.ResetEvent := by
  intro s lo hi r
  constructor
  · intro hclears
    rw [State.resetEvent, hclears]
    rfl
  · intro hkeeps
    rw [State.resetEvent, hkeeps]
    rfl

/-- The platform of the reset state is well formed (10_state.md R40, R41). -/
theorem reset_inv : State.reset.Inv := ⟨by decide, by decide⟩

/-- Settles O14: the two vector bytes of an empty RAM are 0, so the PC of construction is that of the reset state. -/
theorem resetMeetsInv : Obligations.ResetMeetsInv :=
  have hconstruct : State.construct defaultDevices [] = State.reset := by decide
  ⟨reset_inv, ⟨rfl, rfl, rfl⟩, rfl, hconstruct, rfl, rfl, rfl, rfl, rfl⟩

end Sys2Proof.Machine
end
